-- ==== Sys2Proof/Word.lean ====
section
/-! DEFINITION. The plain words of the machine: bytes, bus and video-memory addresses, colour indices,
RGB triples and the 27-bit request word (spec rules R8, R9, R70). -/

namespace Sys2Proof

/-- Eight bits: every transfer across every interface is one byte (R56). -/
abbrev Byte := BitVec 8

/-- A bus address (R50, R70). -/
abbrev BusAddr := BitVec 16

/-- An index into the 16 KiB video memory, the width of the cursor (R8, R33). -/
abbrev VramAddr := BitVec 14

/-- An index into the 64-entry hardware colour table, what a frame-buffer pixel holds (R43, R230). -/
abbrev Color := BitVec 6

/-- A pixel of a tile bitmap: the two bit-planes together (R185). -/
abbrev PixelIndex := BitVec 2

/-- One request of the driver, `op[26:24] addr[23:8] data[7:0]` (R70). -/
abbrev ReqWord := BitVec 27

/-- A triple of three 8-bit channels, an entry of the hardware colour table (R7, R230). -/
structure Rgb where
  red   : Byte
  green : Byte
  blue  : Byte
deriving DecidableEq, Repr, Inhabited

end Sys2Proof
end

