-- ==== Sys2Proof/Config.lean ====
section
/-! DEFINITION. What an implementation fixes (the parameters of spec rule R7) and the free values: the
constants without a body that stand for what the spec leaves open. -/

namespace Sys2Proof

/-- What becomes of an opaque sprite pixel past the right or bottom edge (R221, parameter SPRITE_EDGE). -/
inductive SpriteEdge where
  /-- The pixel is discarded: the spec's default. -/
  | clip
  /-- The pixel raises SPRITE_OFF_SCREEN. -/
  | fault
deriving DecidableEq, Repr

/-- What a palette byte above 63 does (R186, parameter COLOR_POLICY). -/
inductive ColorPolicy where
  /-- It raises COLOR_INDEX_OUT_OF_RANGE: the spec's default. -/
  | fault
  /-- Its low six bits are taken. -/
  | mask6
deriving DecidableEq, Repr

/-- The implementation parameters of R7, one field each. They are constant for the chip's lifetime; the
state carries them, so that a statement about every state is a statement about every parameter value.
The mirror flag, the stride, the sprite offset, the edge policy and the colour policy have defaults in
the spec; every other field is OPEN there. -/
structure Params where
  /-- FRAME_PERIOD: how many TICK requests make a frame (R160, R161); OPEN. -/
  framePeriod   : Nat
  /-- NMI_ARG: the boolean passed with every NMI assertion (R161); OPEN. -/
  nmiArg        : Bool
  /-- Bits 6..0 of STATUS_VALUE (R32, R141); OPEN. Bit 7 is 1 by rule and so is not held. -/
  statusLow     : BitVec 7
  /-- AUDIO_ADDR_A (R72, R111); OPEN. -/
  audioAddrA    : BusAddr
  /-- AUDIO_ADDR_B (R72, R112); OPEN. -/
  audioAddrB    : BusAddr
  /-- WRAM_BASE (R55); OPEN. -/
  wramBase      : BusAddr
  /-- WRAM_SIZE (R55); OPEN. -/
  wramSize      : Nat
  /-- HW_PALETTE: the 64-entry colour table (R230); OPEN. -/
  hwPalette     : Vector Rgb 64
  /-- MIRROR_PPU_REGS (R73); default false. -/
  mirrorPpuRegs : Bool
  /-- PT_STRIDE (R53, R185); default 0x1000. -/
  ptStride      : Nat
  /-- SPRITE_Y_OFFSET, 0 or 1 (R221); default 0. -/
  spriteYOffset : Fin 2
  /-- SPRITE_EDGE (R221); default clip. -/
  spriteEdge    : SpriteEdge
  /-- COLOR_POLICY (R186); default fault. -/
  colorPolicy   : ColorPolicy
deriving DecidableEq, Repr

/-- Free value: FRAME_PERIOD less one at reset (R7: OPEN, at least 1). Log entry 11. -/
opaque Config.framePeriodPred : Nat

/-- Free value: NMI_ARG at reset (R7, R161: OPEN). Log entry 11. -/
opaque Config.nmiArg : Bool

/-- Free value: bits 6..0 of STATUS_VALUE at reset (R7, R32: OPEN). Log entry 11. -/
opaque Config.statusLow : BitVec 7

/-- Free value: the entries of HW_PALETTE at reset (R7, R230: OPEN). Log entry 11. -/
opaque Config.hwPalette : Color → Rgb

/-- Free value: pixel (x, y) of the `n`-th unsaid frame, the content of the frame buffer before the first
RENDER and after a RENDER that faults (R43, R210: no claim may read it). Log entry 9. -/
opaque Config.freePixel : Nat → Nat → Nat → Color

/-- Free value: what the renderer reads from pattern-ROM index `a` when `a` lies past the 16384-byte
image, which only a PT_STRIDE above 0x3000 reaches (R53, R185 state no value). Log entry 12. -/
opaque Config.romBeyond : Nat → Byte

/-- The parameters at reset: the spec's defaults where it has them, its illustration values for the audio
addresses and the work-RAM segment (R7), and free values for the rest. Log entries 10 and 11. -/
def Config.params : Params where
  framePeriod   := Config.framePeriodPred + 1
  nmiArg        := Config.nmiArg
  statusLow     := Config.statusLow
  audioAddrA    := 0x4015
  audioAddrB    := 0x4017
  wramBase      := 0x0000
  wramSize      := 0x0800
  hwPalette     := Vector.ofFn fun k => Config.hwPalette (BitVec.ofFin k)
  mirrorPpuRegs := false
  ptStride      := 0x1000
  spriteYOffset := 0
  spriteEdge    := .clip
  colorPolicy   := .fault

end Sys2Proof
end

