-- ==== Sys2Proof/Syntax.lean ====
section
/-! DEFINITION. The requests of the block: one constructor for each of the 22 rows of
spec/opcode_table.json (spec rules R71, R72, R77). Fields a request ignores (R74) are not part of it. -/

namespace Sys2Proof

/-- A decoded request. `d` is the data byte `W[7:0]`, `a` the decoded bus address (R70, R73). -/
inductive Instr where
  /-- RD_PPUSTATUS (R141): read the fixed status byte. -/
  | rdPpustatus
  /-- RD_PPUDATA (R140): buffered video-memory read. -/
  | rdPpudata
  /-- RD_JOY (R142): serial controller read. -/
  | rdJoy
  /-- RD_UNMAPPED (R143): read at an address with no read behaviour. -/
  | rdUnmapped (a : BusAddr)
  /-- WR_PPUCTRL (R100): store the control byte. -/
  | wrPpuctrl (d : Byte)
  /-- WR_PPUMASK (R101): accepted and discarded. -/
  | wrPpumask (d : Byte)
  /-- WR_OAMADDR (R102): accepted and discarded. -/
  | wrOamaddr (d : Byte)
  /-- WR_OAMDATA (R108): accepted and discarded. -/
  | wrOamdata (d : Byte)
  /-- WR_PPUSCROLL (R106): diagnostic only. -/
  | wrPpuscroll (d : Byte)
  /-- WR_PPUADDR (R103, R104): one byte of an address pair. -/
  | wrPpuaddr (d : Byte)
  /-- WR_PPUDATA (R105): write video memory at the cursor. -/
  | wrPpudata (d : Byte)
  /-- WR_OAMDMA (R109): copy a page of work RAM into OAM. -/
  | wrOamdma (d : Byte)
  /-- WR_JOYSTROBE (R110): set the controller's strobe mode. -/
  | wrJoystrobe (d : Byte)
  /-- WR_AUDIO_A (R111): forward a write to the audio collaborator. -/
  | wrAudioA (d : Byte)
  /-- WR_AUDIO_B (R112): forward a write to the audio collaborator. -/
  | wrAudioB (d : Byte)
  /-- WR_UNMAPPED (R113): write at an address with no write behaviour. -/
  | wrUnmapped (a : BusAddr) (d : Byte)
  /-- TICK (R160): advance the frame counter. -/
  | tick
  /-- RENDER (R210): render one full frame. -/
  | render
  /-- SET_INPUT (R163): update the controller snapshot. -/
  | setInput (d : Byte)
  /-- WIRE_CPU (R162): establish the processor back-reference. -/
  | wireCpu
  /-- RESERVED_6 (R78): reserved, refused. -/
  | reserved6
  /-- RESERVED_7 (R78): reserved, refused. -/
  | reserved7
deriving DecidableEq, Repr

end Sys2Proof
end

