-- ==== Sys2Proof/WellFormed.lean ====
section
/-! DEFINITION. What the spec requires of the parameters (rules R7, R72) and of a decoded request: the two
catch-all requests hold only addresses that no specific row of the register map answers (R72, R73). -/

namespace Sys2Proof

/-- The bus addresses of R72's table that are not parameters. -/
def registerAddrs : List BusAddr :=
  [0x2000, 0x2001, 0x2002, 0x2003, 0x2004, 0x2005, 0x2006, 0x2007, 0x4014, 0x4016]

/-- The addresses with a read behaviour (R72, column BUS_READ). -/
def readableAddrs : List BusAddr := [0x2002, 0x2007, 0x4016]

/-- The fixed addresses with a write behaviour (R72, column BUS_WRITE). -/
def writableAddrs : List BusAddr :=
  [0x2000, 0x2001, 0x2003, 0x2004, 0x2005, 0x2006, 0x2007, 0x4014, 0x4016]

/-- `a` is an address that MIRROR_PPU_REGS, when true, folds onto the eight registers (R73). -/
def Params.mirrored (p : Params) (a : BusAddr) : Bool :=
  p.mirrorPpuRegs && decide (0x2008 ≤ a.toNat) && decide (a.toNat ≤ 0x3FFF)

/-- An audio-forward address is not in the register map, nor among the mirrors when they answer (R7, R72). -/
def Params.audioAddrOk (p : Params) (a : BusAddr) : Bool :=
  !registerAddrs.contains a && !p.mirrored a

/-- What R7 and R72 require of the parameters. -/
def Params.wf (p : Params) : Bool :=
  decide (1 ≤ p.framePeriod)
  && p.audioAddrOk p.audioAddrA
  && p.audioAddrOk p.audioAddrB
  && p.audioAddrA != p.audioAddrB
  && decide (1 ≤ p.wramSize)
  && decide (p.wramBase.toNat + p.wramSize ≤ 0x10000)

/-- A request is well formed when it is one the decoder can give: a catch-all request holds an address
that no specific row answers and that is not a mirror (R72, R73); every other request always is. -/
def Instr.wf (p : Params) : Instr → Bool
  | .rdUnmapped a => !readableAddrs.contains a && !p.mirrored a
  | .wrUnmapped a _ =>
      !writableAddrs.contains a && a != p.audioAddrA && a != p.audioAddrB && !p.mirrored a
  | .rdPpustatus | .rdPpudata | .rdJoy => true
  | .wrPpuctrl _ | .wrPpumask _ | .wrOamaddr _ | .wrOamdata _ | .wrPpuscroll _ => true
  | .wrPpuaddr _ | .wrPpudata _ | .wrOamdma _ | .wrJoystrobe _ => true
  | .wrAudioA _ | .wrAudioB _ => true
  | .tick | .render | .setInput _ | .wireCpu | .reserved6 | .reserved7 => true

end Sys2Proof
end

