-- ==== Sys2Proof/Decode.lean ====
section
/-! DEFINITION. Decoding a request word (spec rules R70 to R74, R77, R78), the encoder written from the same
tables, and the opcode table's match and mask of each request. -/

namespace Sys2Proof

/-- `W[26:24]`, the request kind (R70, R71). -/
def opField (w : ReqWord) : BitVec 3 := w.extractLsb' 24 3

/-- `W[23:8]`, the bus address (R70). -/
def addrField (w : ReqWord) : BusAddr := w.extractLsb' 8 16

/-- `W[7:0]`, the data byte (R70). -/
def dataField (w : ReqWord) : Byte := w.extractLsb' 0 8

/-- The address a bus access decodes as: a mirror of the eight registers is folded onto them when
MIRROR_PPU_REGS is true, any other address stands (R73). -/
def decodedAddr (p : Params) (a : BusAddr) : BusAddr :=
  if p.mirrored a then 0x2000 + (a &&& 7) else a

/-- The read column of R72's table. -/
def readRow (a : BusAddr) : Instr :=
  if a = 0x2002 then .rdPpustatus
  else if a = 0x2007 then .rdPpudata
  else if a = 0x4016 then .rdJoy
  else .rdUnmapped a

/-- The write column of R72's table, with data byte `d`. -/
def writeRow (p : Params) (a : BusAddr) (d : Byte) : Instr :=
  if a = 0x2000 then .wrPpuctrl d
  else if a = 0x2001 then .wrPpumask d
  else if a = 0x2003 then .wrOamaddr d
  else if a = 0x2004 then .wrOamdata d
  else if a = 0x2005 then .wrPpuscroll d
  else if a = 0x2006 then .wrPpuaddr d
  else if a = 0x2007 then .wrPpudata d
  else if a = 0x4014 then .wrOamdma d
  else if a = 0x4016 then .wrJoystrobe d
  else if a = p.audioAddrA then .wrAudioA d
  else if a = p.audioAddrB then .wrAudioB d
  else .wrUnmapped a d

/-- Decode(W) of R73. Every 27-bit word is a request: the reserved values of `op` decode to the two reserved
rows, which are refused when they run (R78). -/
def decode (p : Params) (w : ReqWord) : Instr :=
  match (opField w).toNat with
  | 0 => readRow (decodedAddr p (addrField w))
  | 1 => writeRow p (decodedAddr p (addrField w)) (dataField w)
  | 2 => .tick
  | 3 => .render
  | 4 => .setInput (dataField w)
  | 5 => .wireCpu
  | 6 => .reserved6
  | _ => .reserved7

/-- Why a number is no request. -/
inductive DecodeError where
  /-- The number has a bit above bit 26: a request word is 27 bits (R70). -/
  | notARequestWord (n : Nat)
deriving DecidableEq, Repr

/-- Decoding of any number: one of more than 27 bits is no request word (R70). -/
def decodeWord (p : Params) (n : Nat) : Except DecodeError Instr :=
  if n < 2 ^ 27 then .ok (decode p (BitVec.ofNat 27 n)) else .error (.notARequestWord n)

/-- The request whose bits are `w`, numbered as the opcode table numbers them, under the parameters at reset
(the table shows the audio addresses at their illustration values). The one format has one length (R70), so
the bits from `nbits` up, which are 0, need no further word. -/
def decodeTableWord (_nbits w : Nat) : Option Instr :=
  (decodeWord Config.params w).toOption

/-- `W = (op << 24) | (addr << 8) | data` (R70). -/
def requestWord (op : BitVec 3) (a : BusAddr) (d : Byte) : ReqWord := op ++ a ++ d

/-- The request word of a decoded request, with 0 in every field the request ignores (R70 to R72, R74). -/
def encode (p : Params) : Instr → ReqWord
  | .rdPpustatus    => requestWord 0 0x2002 0
  | .rdPpudata      => requestWord 0 0x2007 0
  | .rdJoy          => requestWord 0 0x4016 0
  | .rdUnmapped a   => requestWord 0 a 0
  | .wrPpuctrl d    => requestWord 1 0x2000 d
  | .wrPpumask d    => requestWord 1 0x2001 d
  | .wrOamaddr d    => requestWord 1 0x2003 d
  | .wrOamdata d    => requestWord 1 0x2004 d
  | .wrPpuscroll d  => requestWord 1 0x2005 d
  | .wrPpuaddr d    => requestWord 1 0x2006 d
  | .wrPpudata d    => requestWord 1 0x2007 d
  | .wrOamdma d     => requestWord 1 0x4014 d
  | .wrJoystrobe d  => requestWord 1 0x4016 d
  | .wrAudioA d     => requestWord 1 p.audioAddrA d
  | .wrAudioB d     => requestWord 1 p.audioAddrB d
  | .wrUnmapped a d => requestWord 1 a d
  | .tick           => requestWord 2 0 0
  | .render         => requestWord 3 0 0
  | .setInput d     => requestWord 4 0 d
  | .wireCpu        => requestWord 5 0 0
  | .reserved6      => requestWord 6 0 0
  | .reserved7      => requestWord 7 0 0

/-- The mask of a register row of 0x2000 to 0x2007: op and the whole address, or op and address bits 15:13 and 2:0
when the mirrors answer (R77). -/
def ppuRowMask (p : Params) : ReqWord := if p.mirrorPpuRegs then 0x7E00700 else 0x7FFFF00

/-- The mask of a request's row in the opcode table: op and address for a specific row, op alone for a catch-all, a
non-bus or a reserved row (R77). -/
def rowMask (p : Params) : Instr → ReqWord
  | .rdUnmapped _ | .wrUnmapped _ _ => 0x7000000
  | .tick | .render | .setInput _ | .wireCpu | .reserved6 | .reserved7 => 0x7000000
  | .rdPpustatus | .rdPpudata => ppuRowMask p
  | .wrPpuctrl _ | .wrPpumask _ | .wrOamaddr _ | .wrOamdata _ | .wrPpuscroll _ => ppuRowMask p
  | .wrPpuaddr _ | .wrPpudata _ => ppuRowMask p
  | .rdJoy | .wrOamdma _ | .wrJoystrobe _ | .wrAudioA _ | .wrAudioB _ => 0x7FFFF00

/-- The match value of a request's row in the opcode table. The audio rows are written there for the
illustration addresses; here they follow the parameters (R72, R77). -/
def rowMatch (p : Params) : Instr → ReqWord
  | .rdPpustatus    => 0x0200200
  | .rdPpudata      => 0x0200700
  | .rdJoy          => 0x0401600
  | .rdUnmapped _   => 0x0000000
  | .wrPpuctrl _    => 0x1200000
  | .wrPpumask _    => 0x1200100
  | .wrOamaddr _    => 0x1200300
  | .wrOamdata _    => 0x1200400
  | .wrPpuscroll _  => 0x1200500
  | .wrPpuaddr _    => 0x1200600
  | .wrPpudata _    => 0x1200700
  | .wrOamdma _     => 0x1401400
  | .wrJoystrobe _  => 0x1401600
  | .wrAudioA _     => requestWord 1 p.audioAddrA 0
  | .wrAudioB _     => requestWord 1 p.audioAddrB 0
  | .wrUnmapped _ _ => 0x1000000
  | .tick           => 0x2000000
  | .render         => 0x3000000
  | .setInput _     => 0x4000000
  | .wireCpu        => 0x5000000
  | .reserved6      => 0x6000000
  | .reserved7      => 0x7000000

end Sys2Proof
end

