-- ==== Sys2Proof/Machine/Frame.lean ====
section
/-! DEFINITION. The frame buffer's colour-index image as plain data (spec rules R8, R43, R231). -/

namespace Sys2Proof.Machine

/-- `fbi`: 240 rows, row 0 at the top, of 256 colour indices, column 0 at the left (R43). -/
structure Frame where
  rows : Vector (Vector Color 256) 240
deriving DecidableEq, Repr

/-- `fbi(x, y)`: column `x`, row `y` (R43). -/
def Frame.pixel (fr : Frame) (x : Fin 256) (y : Fin 240) : Color := (fr.rows[y])[x]

/-- The frame whose pixel (x, y) is `f x y`. Irreducible, so that no check of equality by computation unfolds its
61440 pixels: a pixel of it is read by `pixel_tabulate`. -/
@[irreducible] def Frame.tabulate (f : Fin 256 → Fin 240 → Color) : Frame :=
  ⟨Vector.ofFn fun y => Vector.ofFn fun x => f x y⟩

/-- `fbi(x, y) <- c`. -/
def Frame.paint (fr : Frame) (x : Fin 256) (y : Fin 240) (c : Color) : Frame :=
  ⟨fr.rows.set y ((fr.rows[y]).set x c)⟩

/-- The `n`-th unsaid frame: every pixel a free value (R43, R210). Log entry 9. -/
def Frame.free (n : Nat) : Frame := Frame.tabulate fun x y => Config.freePixel n x y

end Sys2Proof.Machine
end

