-- ==== Sys2Proof/Machine/Memory.lean ====
section
/-! DEFINITION. A memory as plain data in one canonical form, and reading and writing it. The chip's three
memories and the external work-RAM segment (spec rules R37, R38, R39, R55) are each one of these. -/

namespace Sys2Proof.Machine

/-- The listed bytes of a memory, by address. -/
abbrev Memory := List Host.Cell

/-- What an address that is not listed reads as: the reset contents under the launch premise ZERO_INIT (R46).
DESIGN CHOICE, log entry 8. -/
def Memory.unlisted : Byte := 0

/-- `mem[a]` (R10). -/
def Memory.read : Memory → Nat → Byte
  | [], _ => Memory.unlisted
  | c :: rest, a => if c.1 = a then c.2 else Memory.read rest a

/-- Puts a cell before the first one with a larger address. -/
def Memory.insertCell (c : Host.Cell) : Memory → Memory
  | [] => [c]
  | b :: rest => if c.1 < b.1 then c :: b :: rest else b :: Memory.insertCell c rest

/-- `mem[a] <- v` (R10): writing what an unlisted address reads as removes the entry. -/
def Memory.write (m : Memory) (a : Nat) (v : Byte) : Memory :=
  let others := m.filter fun c => c.1 != a
  if v = Memory.unlisted then others else Memory.insertCell (a, v) others

/-- The memory that holds a list of bytes from address `a` up. -/
def Memory.ofBytesFrom : Nat → List Byte → Memory
  | _, [] => []
  | a, b :: rest =>
      if b = Memory.unlisted then Memory.ofBytesFrom (a + 1) rest
      else (a, b) :: Memory.ofBytesFrom (a + 1) rest

/-- The memory that holds an image, byte `k` at address `k`. -/
def Memory.ofBytes (image : List Byte) : Memory := Memory.ofBytesFrom 0 image

/-- The canonical form of a memory of `size` bytes: addresses strictly rising and in range, no entry equal to
what an unlisted address reads as. -/
abbrev Memory.wf (size : Nat) (m : Memory) : Prop :=
  m.Pairwise (fun b c => b.1 < c.1) ∧ ∀ c ∈ m, c.1 < size ∧ c.2 ≠ Memory.unlisted

end Sys2Proof.Machine
end

