-- ==== Sys2Proof/Machine/State.lean ====
section
/-! DEFINITION. The state of the block (spec rule R20), what its environment holds, its outputs, and the state
after reset (rule R46 under the launch premise ZERO_INIT). -/

namespace Sys2Proof.Machine

/-- A fault of the block with its recorded info (R241). Raising one records it in the state (R245); it is the
NEXT request that then finds the block stopped (R246). -/
inductive FaultRecord where
  /-- 1 VRAM_OUT_OF_RANGE: a data-port access with the cursor out of the 14-bit space (R105, R140). -/
  | vramOutOfRange (word : ReqWord)
  /-- 2 DMA_SOURCE_OUT_OF_RANGE: a DMA source byte outside the work-RAM segment (R109). -/
  | dmaSourceOutOfRange (page : Byte)
  /-- 3 SPRITE_8X16_UNIMPLEMENTED: a RENDER with `ppuctrl[5]` = 1 (R215). -/
  | sprite8x16Unimplemented
  /-- 4 COLOR_INDEX_OUT_OF_RANGE: a palette byte above 63 (R186). -/
  | colorIndexOutOfRange (addr : Nat) (e : Byte)
  /-- 5 UNMAPPED_READ: a read with no read behaviour (R143). -/
  | unmappedRead (a : BusAddr)
  /-- 6 UNMAPPED_WRITE: a write with no write behaviour (R113). -/
  | unmappedWrite (a : BusAddr) (d : Byte)
  /-- 7 NOT_WIRED: a TICK before WIRE_CPU (R160). -/
  | notWired
  /-- 8 BAD_PATTERN_ROM_SIZE: construction with an image of another size (R270). -/
  | badPatternRomSize (size : Nat)
  /-- 9 SPRITE_OFF_SCREEN: an opaque sprite pixel past the edge with SPRITE_EDGE = fault (R221). -/
  | spriteOffScreen (sprite : Nat)
deriving DecidableEq, Repr

/-- An output event (R240). -/
inductive Event where
  /-- `NMI(b)`: the non-maskable interrupt asserted on the processor (R161). -/
  | nmi (b : Bool)
  /-- `APU_WRITE(a, d)`: a write forwarded to the audio collaborator (R111, R112). -/
  | apuWrite (a : BusAddr) (d : Byte)
  /-- `DIAG(SCROLL_UNIMPLEMENTED, d)`: the non-fatal report of a scroll write (R106, R244). -/
  | diagScroll (d : Byte)
deriving DecidableEq, Repr

/-- What a request returns to the driver (R83). -/
inductive Response where
  /-- Nothing: every request but a bus read and RENDER, and every request that faults or is refused. -/
  | nothing
  /-- The data byte of a bus read. -/
  | data (b : Byte)
  /-- RENDER's reference to the frame buffer: what it shows is the buffer as it stands when it is looked at. -/
  | frame
deriving DecidableEq, Repr

/-- What arrives from outside the block, in order (R60, R273). -/
inductive Arrival where
  /-- The driver issues a request (R70). -/
  | request (w : ReqWord)
  /-- The processor side stores a byte at a bus address of its work RAM: the segment is environment state,
  and its content is an input of each DMA (R55, R273). -/
  | wramStore (a : BusAddr) (v : Byte)
deriving DecidableEq, Repr

/-- The state. The first group is R20's table, element by element (`fb` is `fbi` seen through the colour
table, R43, and is not stored twice); the second is what the model adds: the parameters, the environment,
the outputs and the counter of free values. -/
structure State where
  /-- Control register (R23). -/
  ppuctrl   : Byte
  /-- Video-memory cursor (R33). -/
  vAddr     : VramAddr
  /-- The cursor has left the 14-bit space (R33). -/
  vOvf      : Bool
  /-- Address write toggle: false expects the high byte, true the low byte (R34). -/
  w         : Bool
  /-- Data-port read buffer (R35). -/
  rdbuf     : Byte
  /-- Video memory, 16384 bytes (R37). -/
  vram      : Memory
  /-- Object-attribute memory, 256 bytes (R38). -/
  oam       : Memory
  /-- Pattern-table ROM, 16384 bytes, constant (R39). -/
  ptrom     : Memory
  /-- Frame tick counter (R40). -/
  tick      : Nat
  /-- Controller snapshot (R41). -/
  joyState  : Byte
  /-- Controller strobe mode (R41). -/
  joyStrobe : Bool
  /-- Controller read index, 0 to 8 (R41). -/
  joyIdx    : BitVec 4
  /-- The processor back-reference is established (R42). -/
  wired     : Bool
  /-- Rendered colour-index frame (R43). -/
  fbi       : Frame
  /-- A render has completed (R43). -/
  fbValid   : Bool
  /-- Sticky fault record (R44). -/
  fault     : Option FaultRecord
  /-- Sticky refusal mark (R44). -/
  refused   : Bool
  /-- The implementation parameters (R7), constant. -/
  params    : Params
  /-- The external work-RAM segment, byte `k` at bus address WRAM_BASE + `k` (R55). -/
  wram      : Memory
  /-- What has still to arrive, next first (R60, R273). -/
  arrivals  : List Arrival
  /-- The request word being taken: VRAM_OUT_OF_RANGE records it (R241). -/
  word      : ReqWord
  /-- What the last request taken returned (R83). -/
  response  : Response
  /-- The output trace, oldest event first (R240). -/
  trace     : List Event
  /-- How many free frames have been drawn (log entry 9). -/
  freeCount : Nat
deriving DecidableEq, Repr

/-- Why a step stops with a fault. -/
inductive Fault where
  /-- Raised by the sticky gate before a request is taken, once an earlier request or the construction has
  faulted: the block is stopped for good (R246). Safe: the spec gives no step here. -/
  | stopped (f : FaultRecord)
deriving DecidableEq, Repr

/-- Why a step is refused. -/
inductive Refusal where
  /-- Raised by `exec` for an instruction without a meaning yet. Safe: nothing can be proved of it. -/
  | notModelled (mnemonic : String)
  /-- RESERVED_REQUEST, raised by the sticky gate once a reserved request has set `refused` (R242, R246). Safe:
  the spec gives no step here. -/
  | reservedRequest
deriving DecidableEq, Repr

/-- The state after construction (R46, R270) under the launch premise ZERO_INIT, with a pattern image of zeros
and nothing yet issued by the driver. The fixed values are R46's; the drawn ones are ZERO_INIT's (log entry 5),
the image is log entry 6, the unsaid frame is free (log entry 9). -/
def State.reset : State where
  ppuctrl   := 0
  vAddr     := 0
  vOvf      := false
  w         := false
  rdbuf     := 0
  vram      := []
  oam       := []
  ptrom     := []
  tick      := 0
  joyState  := 0
  joyStrobe := false
  joyIdx    := 0
  wired     := false
  fbi       := Frame.free 0
  fbValid   := false
  fault     := none
  refused   := false
  params    := Config.params
  wram      := []
  arrivals  := []
  word      := 0
  response  := .nothing
  trace     := []
  freeCount := 1

end Sys2Proof.Machine
end

