-- ==== Sys2Proof/Machine/Ops.lean ====
section
/-! DEFINITION. The named operations every meaning is written with: completing a request, answering a read,
emitting an output event, raising a fault and refusing (spec rules R10, R83, R240, R242, R245), construction
(R270) and taking the next arrival through the sticky gate (R246). The block has no trap, no handler and no
return from one (R248), so raising a fault is the whole of its exception entry. -/

namespace Sys2Proof.Machine

/-- What a meaning answers. -/
abbrev Result := Host.Outcome State Fault Refusal

/-- The request completes and returns nothing (R83). -/
def finish (s : State) : Result := .next { s with response := .nothing }

/-- The bus read completes and returns the byte `b` (R83). -/
def answer (b : Byte) (s : State) : Result := .next { s with response := .data b }

/-- RENDER completes and returns its reference to the frame buffer (R83, R231). -/
def answerFrame (s : State) : Result := .next { s with response := .frame }

/-- `emit E`: one event at the end of the output trace (R240). -/
def emit (e : Event) (s : State) : State := { s with trace := s.trace ++ [e] }

/-- `raise F` (R245): the fault is recorded, the request ends at that point and returns no data. -/
def raise (f : FaultRecord) (s : State) : Result :=
  .next { s with fault := some f, response := .nothing }

/-- A refusal (R78, R242): the mark is set, nothing else changes, and no data is returned. -/
def refuse (s : State) : Result := .next { s with refused := true, response := .nothing }

/-- The fault's code number (R241). -/
def faultCode : FaultRecord → Nat
  | .vramOutOfRange _ => 1
  | .dmaSourceOutOfRange _ => 2
  | .sprite8x16Unimplemented => 3
  | .colorIndexOutOfRange _ _ => 4
  | .unmappedRead _ => 5
  | .unmappedWrite _ _ => 6
  | .notWired => 7
  | .badPatternRomSize _ => 8
  | .spriteOffScreen _ => 9

/-- PT_ROM_SIZE (R8). -/
def ptRomSize : Nat := 16384

/-- The number of bytes of video memory (R8). -/
def vramSize : Nat := 16384

/-- The number of bytes of OAM (R8). -/
def oamSize : Nat := 256

/-- The inputs of a construction (R270, R273): the pattern image, the drawn reset values of R46 (the unsaid
frame among them), the parameters, the work-RAM content and the stream. -/
structure Construction where
  image    : List Byte
  ppuctrl  : Byte
  vAddr    : VramAddr
  rdbuf    : Byte
  vram     : Memory
  oam      : Memory
  joyState : Byte
  fbi      : Frame
  params   : Params
  wram     : Memory
  stream   : List Arrival
deriving DecidableEq, Repr

/-- Construct (R270): every element at its reset value of R46. An image of another size raises
BAD_PATTERN_ROM_SIZE; the ROM then holds nothing, and the fault stops the block (log entry 21). -/
def construct (c : Construction) : State :=
  let sizeOk := c.image.length = ptRomSize
  { ppuctrl   := c.ppuctrl
    vAddr     := c.vAddr
    vOvf      := false
    w         := false
    rdbuf     := c.rdbuf
    vram      := c.vram
    oam       := c.oam
    ptrom     := if sizeOk then Memory.ofBytes c.image else []
    tick      := 0
    joyState  := c.joyState
    joyStrobe := false
    joyIdx    := 0
    wired     := false
    fbi       := c.fbi
    fbValid   := false
    fault     := if sizeOk then none else some (.badPatternRomSize c.image.length)
    refused   := false
    params    := c.params
    wram      := c.wram
    arrivals  := c.stream
    word      := 0
    response  := .nothing
    trace     := []
    freeCount := 1 }

/-- The construction inputs of the launch premise ZERO_INIT with a pattern image of zeros (R46). -/
def zeroInit : Construction where
  image    := List.replicate ptRomSize 0
  ppuctrl  := 0
  vAddr    := 0
  rdbuf    := 0
  vram     := []
  oam      := []
  joyState := 0
  fbi      := Frame.free 0
  params   := Config.params
  wram     := []
  stream   := []

/-- A bus address lies in the work-RAM segment (R55). -/
def inWram (s : State) (a : Nat) : Bool :=
  decide (s.params.wramBase.toNat ≤ a) && decide (a < s.params.wramBase.toNat + s.params.wramSize)

/-- The processor side stores `v` at bus address `a`; an address outside the segment is none of the block's
inputs (R55). Log entry 7. -/
def storeWram (a : BusAddr) (v : Byte) (s : State) : State :=
  if inWram s a.toNat then { s with wram := s.wram.write (a.toNat - s.params.wramBase.toNat) v } else s

/-- The driver's next request is taken: it leaves the stream and its word is held (R3, R60). -/
def takeRequest (w : ReqWord) (rest : List Arrival) (s : State) : State :=
  { s with arrivals := rest, word := w }

/-- What a step finds. -/
inductive Fetched where
  /-- A fault is recorded: the block is stopped (R246). -/
  | stoppedByFault (f : FaultRecord)
  /-- A refusal is marked: the block is stopped (R246). -/
  | stoppedByRefusal
  /-- Nothing has arrived: the block acts only when a request arrives (R255). -/
  | idle
  /-- The environment acted; the state after it. -/
  | environment (t : State)
  /-- A request was taken; what it decodes to and the state it runs in. -/
  | request (i : Instr) (t : State)
deriving DecidableEq, Repr

/-- The sticky gate (R246), then the next arrival (R60), a request being decoded as R73 says. -/
def fetch (s : State) : Fetched :=
  match s.fault with
  | some f => .stoppedByFault f
  | none =>
    if s.refused then .stoppedByRefusal
    else match s.arrivals with
      | [] => .idle
      | .wramStore a v :: rest => .environment (storeWram a v { s with arrivals := rest })
      | .request w :: rest => .request (decode s.params w) (takeRequest w rest s)

end Sys2Proof.Machine
end

