-- ==== Sys2Proof/Machine/Operands.lean ====
section
/-! DEFINITION. Where operands come from: the fields of the control register and of the sprite attribute byte
(spec rules R23 to R30, R214), the status constant (R32), the reads of each memory space (R50 to R55), the tile
decode and the palette lookup (R185, R186), and the RGB view of the frame buffer (R230). -/

namespace Sys2Proof.Machine

/-- `NT_SEL` = `ppuctrl[1:0]` (R24). -/
def ntSel (s : State) : BitVec 2 := s.ppuctrl.extractLsb' 0 2

/-- `INC32` = `ppuctrl[2]` (R25). -/
def inc32 (s : State) : Bool := s.ppuctrl.getLsbD 2

/-- `SPR_PT` = `ppuctrl[3]` (R26). -/
def sprPt (s : State) : Bool := s.ppuctrl.getLsbD 3

/-- `BG_PT` = `ppuctrl[4]` (R27). -/
def bgPt (s : State) : Bool := s.ppuctrl.getLsbD 4

/-- `SPR_SIZE` = `ppuctrl[5]` (R28). -/
def sprSize (s : State) : Bool := s.ppuctrl.getLsbD 5

/-- `NMI_EN` = `ppuctrl[7]` (R30). -/
def nmiEn (s : State) : Bool := s.ppuctrl.getLsbD 7

/-- `STATUS_VALUE`: bit 7 is the vblank bit, always 1 (R32, R141). -/
def statusValue (s : State) : Byte := (1 : BitVec 1) ++ s.params.statusLow

/-- `vram[a]` (R37). -/
def vramByte (s : State) (a : Nat) : Byte := s.vram.read a

/-- `oam[a]` (R38). -/
def oamByte (s : State) (a : Nat) : Byte := s.oam.read a

/-- `ptrom[a]` (R39); past the image, a free value (log entry 12). -/
def romByte (s : State) (a : Nat) : Byte :=
  if a < ptRomSize then s.ptrom.read a else Config.romBeyond a

/-- `WramRead(a)` for an address of the segment: byte `a − WRAM_BASE` (R55). -/
def wramByte (s : State) (a : Nat) : Byte := s.wram.read (a - s.params.wramBase.toNat)

/-- The DMA source address `page << 8` (R56, R109). -/
def dmaSource (page : Byte) : Nat := page.toNat * 256

/-- Every one of the 256 source addresses lies in the work-RAM segment (R109): they are consecutive and so is the
segment, so the first and the last decide it (`dmaInRange_iff` says so of all of them). -/
def dmaInRange (s : State) (page : Byte) : Bool :=
  inWram s (dmaSource page) && inWram s (dmaSource page + 255)

/-- OAM after the copy: `oam[k] <- WramRead(src + k)` for `k` from 0 to 255 in ascending order (R109). Irreducible, so
that no check of equality by computation unfolds the 256 writes: a byte of it is read by `dmaCopy_read`. -/
@[irreducible] def dmaCopy (s : State) (page : Byte) : Memory :=
  (List.range 256).foldl (fun m k => m.write k (wramByte s (dmaSource page + k))) s.oam

/-- TilePixel: row `r`, column `c` of tile `t` of pattern table `k` (R185, R53). -/
def tilePixel (s : State) (k : Bool) (t : Byte) (r c : Nat) : PixelIndex :=
  let base := s.params.ptStride * k.toNat + 16 * t.toNat
  let p0 := romByte s (base + r)
  let p1 := romByte s (base + 8 + r)
  BitVec.ofBool (p1.getLsbD (7 - c)) ++ BitVec.ofBool (p0.getLsbD (7 - c))

/-- The video-memory address of entry `i` of palette group `g` (R186). -/
def paletteAddr (g : Nat) (i : PixelIndex) : Nat := 0x3F00 + 4 * g + i.toNat

/-- The fault of PaletteLookup: a byte above 63 under COLOR_POLICY = fault (R186). -/
def paletteFault (s : State) (g : Nat) (i : PixelIndex) : Option FaultRecord :=
  let e := vramByte s (paletteAddr g i)
  if 63 < e.toNat then
    match s.params.colorPolicy with
    | .fault => some (.colorIndexOutOfRange (paletteAddr g i) e)
    | .mask6 => none
  else none

/-- The value of PaletteLookup where it raises nothing: the palette byte, which is at most 63, or under
COLOR_POLICY = mask6 its low six bits (R186). -/
def paletteColor (s : State) (g : Nat) (i : PixelIndex) : Color :=
  (vramByte s (paletteAddr g i)).setWidth 6

/-- No lookup in the palette groups `groups` can raise a fault (R186). -/
def paletteClean (s : State) (groups : List Nat) : Bool :=
  groups.all fun g => [0, 1, 2, 3].all fun i => (paletteFault s g i).isNone

/-- `Y` of sprite `n` (R213). -/
def spriteY (s : State) (n : Nat) : Byte := oamByte s (4 * n)

/-- The tile index of sprite `n` (R213). -/
def spriteTile (s : State) (n : Nat) : Byte := oamByte s (4 * n + 1)

/-- The attribute byte of sprite `n` (R213). -/
def spriteAttr (s : State) (n : Nat) : Byte := oamByte s (4 * n + 2)

/-- `X` of sprite `n` (R213). -/
def spriteX (s : State) (n : Nat) : Byte := oamByte s (4 * n + 3)

/-- `VFLIP` = `A[7]` (R214). -/
def vFlip (a : Byte) : Bool := a.getLsbD 7

/-- `HFLIP` = `A[6]` (R214). -/
def hFlip (a : Byte) : Bool := a.getLsbD 6

/-- The palette group `4 + A[1:0]` (R214, R219). -/
def spriteGroup (a : Byte) : Nat := 4 + (a.extractLsb' 0 2).toNat

/-- `fb(x, y) = HW_PALETTE(fbi(x, y))` (R43, R230). -/
def fb (s : State) (x : Fin 256) (y : Fin 240) : Rgb :=
  s.params.hwPalette[(s.fbi.pixel x y).toFin]

end Sys2Proof.Machine
end

