-- ==== Sys2Proof/Machine/Flags.lean ====
section
/-! DEFINITION. The one-bit and counter state a request computes: the cursor and its overflow bit (spec rules
R33, R103, R104, R107), the controller's strobe and index (R110, R142), and the frame wrap (R160, R161). -/

namespace Sys2Proof.Machine

/-- The step of the cursor: 32 when `INC32` is 1, else 1 (R107). -/
def cursorStep (s : State) : Nat := if inc32 s then 32 else 1

/-- Advance (R107): the sum is not wrapped; one past 0x3FFF sets `v_ovf`. -/
def advance (s : State) : State :=
  let sum := s.vAddr.toNat + cursorStep s
  { s with
    vAddr := BitVec.ofNat 14 sum
    vOvf := if 0x3FFF < sum then true else s.vOvf }

/-- The first write of an address pair (R103): the high six bits go into the cursor itself. -/
def addressHigh (d : Byte) (s : State) : State :=
  { s with
    vAddr := (d.extractLsb' 0 6).setWidth 14
    vOvf := false
    w := true }

/-- The second write of an address pair (R104): the cursor shifted left by 8 with the byte below, which
leaves the 14-bit space when it stood above 0x3F or had left it already. -/
def addressLow (d : Byte) (s : State) : State :=
  if s.vOvf = false ∧ s.vAddr.extractLsb' 6 8 = 0 then
    { s with
      vAddr := s.vAddr.extractLsb' 0 6 ++ d
      w := false }
  else
    { s with
      vOvf := true
      vAddr := (s.vAddr <<< 8) ||| d.setWidth 14
      w := false }

/-- The controller strobe (R110): bit 0 of the byte is the mode, and a 1 resets the index. -/
def strobe (d : Byte) (s : State) : State :=
  { s with
    joyStrobe := d.getLsbD 0
    joyIdx := if d.getLsbD 0 then 0 else s.joyIdx }

/-- The byte a controller read returns (R142): 1 once the index exceeds 7, else bit `joy_idx` of the snapshot. -/
def joyByte (s : State) : Byte :=
  if 7 < s.joyIdx.toNat then 1
  else (BitVec.ofBool (s.joyState.getLsbD s.joyIdx.toNat)).setWidth 8

/-- The index after a controller read (R142): advanced unless it is saturated or strobe mode holds it. -/
def joyAdvance (s : State) : State :=
  if 7 < s.joyIdx.toNat then s
  else if s.joyStrobe then s
  else { s with joyIdx := s.joyIdx + 1 }

/-- One tick (R160): the counter advances; when it reaches FRAME_PERIOD it is zero again and, if `NMI_EN` is 1,
one NMI is emitted (R161). -/
def tickCount (s : State) : State :=
  if s.tick + 1 = s.params.framePeriod then
    if nmiEn s then emit (.nmi s.params.nmiArg) { s with tick := 0 } else { s with tick := 0 }
  else { s with tick := s.tick + 1 }

end Sys2Proof.Machine
end

