-- ==== Sys2Proof/Machine/Reads.lean ====
section
/-! DEFINITION. The meanings of the bus reads (spec rules R140 to R143). -/

namespace Sys2Proof.Machine

/-- RD_PPUSTATUS (R141): the fixed status byte; no side effect. -/
def execRdPpustatus (s : State) : Result := answer (statusValue s) s

/-- RD_PPUDATA (R140): the buffered byte is returned, the buffer reloaded from the cursor, the cursor advanced. -/
def execRdPpudata (s : State) : Result :=
  if s.vOvf then raise (.vramOutOfRange s.word) s
  else answer s.rdbuf (advance { s with rdbuf := vramByte s s.vAddr.toNat })

/-- RD_JOY (R142): the next bit of the controller snapshot. -/
def execRdJoy (s : State) : Result := answer (joyByte s) (joyAdvance s)

/-- RD_UNMAPPED (R143): a read with no read behaviour raises UNMAPPED_READ. -/
def execRdUnmapped (a : BusAddr) (s : State) : Result := raise (.unmappedRead a) s

end Sys2Proof.Machine
end

