-- ==== Sys2Proof/Machine/Background.lean ====
section
/-! DEFINITION. The tile-fetch and attribute-lookup unit and the background pass (spec rules R180 to R190). The
pass is given pixel by pixel, with its first fault in the order of rule R247; the loop as the spec writes it is
`backgroundLoop`. -/

namespace Sys2Proof.Machine

/-- `NT = 0x2000 + 0x400 * ppuctrl[1:0]` (R181). -/
def nametableBase (s : State) : Nat := 0x2000 + 0x400 * (ntSel s).toNat

/-- `TileIndex(tx, ty) = vram[NT + 32*ty + tx]` (R182). -/
def tileIndex (s : State) (tx ty : Nat) : Byte := vramByte s (nametableBase s + 32 * ty + tx)

/-- The attribute byte of a cell: one byte for a block of 4 by 4 cells, 8 to a block row (R183). -/
def attrByte (s : State) (tx ty : Nat) : Byte :=
  vramByte s (nametableBase s + 0x3C0 + 8 * (ty / 4) + tx / 4)

/-- The quadrant of a cell in its block: 0 top left, 1 top right, 2 bottom left, 3 bottom right (R183). -/
def attrQuadrant (tx ty : Nat) : Nat := 2 * (ty / 2 % 2) + tx / 2 % 2

/-- AttrGroup: the 2-bit field of the cell's quadrant (R183). -/
def attrGroup (s : State) (tx ty : Nat) : Nat :=
  (attrByte s tx ty).toNat >>> (2 * attrQuadrant tx ty) &&& 3

/-- The colour index of row `r`, column `c` of cell (`tx`, `ty`) (R180, R184). -/
def cellPixel (s : State) (tx ty r c : Nat) : PixelIndex :=
  tilePixel s (bgPt s) (tileIndex s tx ty) r c

/-- The background's colour at column `x`, row `y`: pixel (`x % 8`, `y % 8`) of the cell (`x / 8`, `y / 8`)
(R180, R187). -/
def backgroundColor (s : State) (x y : Nat) : Color :=
  paletteColor s (attrGroup s (x / 8) (y / 8)) (cellPixel s (x / 8) (y / 8) (y % 8) (x % 8))

/-- One pixel of the background pass: row `r`, column `c` of cell (`tx`, `ty`). -/
structure BgStep where
  ty : Nat
  tx : Nat
  r  : Nat
  c  : Nat
deriving DecidableEq, Repr

/-- The order of the background pass: cells row by row, then pixel row, then column (R180, R247). Irreducible, so that
no check of equality by computation unfolds its 61440 steps. -/
@[irreducible] def backgroundOrder : List BgStep :=
  (List.range 30).flatMap fun ty => (List.range 32).flatMap fun tx =>
    (List.range 8).flatMap fun r => (List.range 8).map fun c => BgStep.mk ty tx r c

/-- The fault one pixel of the background pass raises, if any (R186). -/
def backgroundStepFault (s : State) (k : BgStep) : Option FaultRecord :=
  paletteFault s (attrGroup s k.tx k.ty) (cellPixel s k.tx k.ty k.r k.c)

/-- The first fault the background pass reaches, if any (R247). Where no background palette byte can raise one
the pass is not searched. -/
def backgroundFault (s : State) : Option FaultRecord :=
  if paletteClean s [0, 1, 2, 3] then none
  else backgroundOrder.findSome? (backgroundStepFault s)

/-- One turn of the background loop: look up the colour, or stop, and paint it at `(8*tx + c, 8*ty + r)`
(R180, R187). -/
def backgroundTurn (s : State) (fr : Frame) (k : BgStep) : Except FaultRecord Frame :=
  match backgroundStepFault s k with
  | some f => .error f
  | none =>
    .ok <|
      if h : 8 * k.tx + k.c < 256 ∧ 8 * k.ty + k.r < 240 then
        fr.paint ⟨8 * k.tx + k.c, h.1⟩ ⟨8 * k.ty + k.r, h.2⟩
          (paletteColor s (attrGroup s k.tx k.ty) (cellPixel s k.tx k.ty k.r k.c))
      else fr

/-- BackgroundPass as R180 writes it: a loop that paints over the frame it is given, pixel after pixel. -/
def backgroundLoop (s : State) (fr : Frame) : Except FaultRecord Frame :=
  backgroundOrder.foldlM (backgroundTurn s) fr

end Sys2Proof.Machine
end

