-- ==== Sys2Proof/Machine/Sprites.lean ====
section
/-! DEFINITION. Sprite compositing and priority (spec rules R211 to R223). The pass is given pixel by pixel, with
its first fault in the order of rule R247; the loop as the spec writes it is `spriteLoop`. -/

namespace Sys2Proof.Machine

/-- The colour index of row `r`, column `c` of sprite `n` as it is drawn: the flips of the attribute byte pick the
tile's row and column (R212, R216, R218). -/
def spritePixel (s : State) (n r c : Nat) : PixelIndex :=
  let sr := if vFlip (spriteAttr s n) then 7 - r else r
  let sc := if hFlip (spriteAttr s n) then 7 - c else c
  tilePixel s (sprPt s) (spriteTile s n) sr sc

/-- The frame-buffer column of column `c` of sprite `n` (R221). -/
def spriteColumn (s : State) (n c : Nat) : Nat := (spriteX s n).toNat + c

/-- The frame-buffer row of row `r` of sprite `n` (R221). -/
def spriteRow (s : State) (n r : Nat) : Nat :=
  (spriteY s n).toNat + s.params.spriteYOffset.val + r

/-- Sprite `n` is hidden: Y = 255 (R217). -/
def spriteHidden (s : State) (n : Nat) : Bool := spriteY s n == 255

/-- The colour sprite `n` paints at column `x`, row `y`: none where it is hidden, does not reach, or is
transparent there (R212, R217, R220, R221). -/
def spriteColor (s : State) (n x y : Nat) : Option Color :=
  if spriteHidden s n then none
  else if spriteColumn s n 0 ≤ x ∧ x < spriteColumn s n 8 ∧ spriteRow s n 0 ≤ y ∧ y < spriteRow s n 8 then
    let i := spritePixel s n (y - spriteRow s n 0) (x - spriteColumn s n 0)
    if i = 0 then none else some (paletteColor s (spriteGroup (spriteAttr s n)) i)
  else none

/-- Sprites 0 to 63 over a colour, each opaque pixel overwriting what is below it (R220, R222, R223). -/
def overlay (s : State) (x y : Nat) (below : Color) : Color :=
  (List.range 64).foldl (fun c n => (spriteColor s n x y).getD c) below

/-- One pixel of the sprite pass: row `r`, column `c` of sprite `n`. -/
structure SpriteStep where
  n : Nat
  r : Nat
  c : Nat
deriving DecidableEq, Repr

/-- The order of the sprite pass: sprites 0 to 63, then pixel row, then column (R212). Irreducible, so that no check of
equality by computation unfolds its 4096 steps. -/
@[irreducible] def spriteOrder : List SpriteStep :=
  (List.range 64).flatMap fun n => (List.range 8).flatMap fun r =>
    (List.range 8).map fun c => SpriteStep.mk n r c

/-- The pixel falls outside the frame buffer (R221). -/
def spriteOffScreen (s : State) (k : SpriteStep) : Bool :=
  decide (255 < spriteColumn s k.n k.c) || decide (239 < spriteRow s k.n k.r)

/-- The fault one pixel of the sprite pass raises, if any (R186, R212, R221). -/
def spriteStepFault (s : State) (k : SpriteStep) : Option FaultRecord :=
  if spriteHidden s k.n then none
  else if spritePixel s k.n k.r k.c = 0 then none
  else if spriteOffScreen s k then
    match s.params.spriteEdge with
    | .clip => none
    | .fault => some (.spriteOffScreen k.n)
  else paletteFault s (spriteGroup (spriteAttr s k.n)) (spritePixel s k.n k.r k.c)

/-- The first fault the sprite pass reaches, if any: 8 by 16 sprites before any OAM byte is read (R215), then
pixel after pixel (R247). Where no sprite palette byte can raise one and pixels past the edge are clipped, the
pass is not searched. -/
def spriteFault (s : State) : Option FaultRecord :=
  if sprSize s then some .sprite8x16Unimplemented
  else if s.params.spriteEdge = .clip ∧ paletteClean s [4, 5, 6, 7] then none
  else spriteOrder.findSome? (spriteStepFault s)

/-- One turn of the sprite loop: skip, stop or paint (R212). -/
def spriteTurn (s : State) (fr : Frame) (k : SpriteStep) : Except FaultRecord Frame :=
  match spriteStepFault s k with
  | some f => .error f
  | none =>
    .ok <|
      if spriteHidden s k.n ∨ spritePixel s k.n k.r k.c = 0 then fr
      else if h : spriteColumn s k.n k.c < 256 ∧ spriteRow s k.n k.r < 240 then
        fr.paint ⟨spriteColumn s k.n k.c, h.1⟩ ⟨spriteRow s k.n k.r, h.2⟩
          (paletteColor s (spriteGroup (spriteAttr s k.n)) (spritePixel s k.n k.r k.c))
      else fr

/-- SpritePass as R212 writes it: a loop that paints over the frame it is given, sprite after sprite. -/
def spriteLoop (s : State) (fr : Frame) : Except FaultRecord Frame :=
  if sprSize s then .error .sprite8x16Unimplemented
  else spriteOrder.foldlM (spriteTurn s) fr

end Sys2Proof.Machine
end

