-- ==== Sys2Proof/Machine/Render.lean ====
section
/-! DEFINITION. The RENDER request (spec rules R210, R211, R230 to R232, R247). -/

namespace Sys2Proof.Machine

/-- The frame a RENDER that does not fault leaves: at each pixel the background's colour with the sprites over it
(R180, R211, R212). -/
def renderFrame (s : State) : Frame :=
  Frame.tabulate fun x y => overlay s x y (backgroundColor s x y)

/-- The fault a RENDER raises, if any: the background's before the sprite pass's (R211, R247). -/
def renderFault (s : State) : Option FaultRecord := (backgroundFault s).or (spriteFault s)

/-- The frame buffer after a RENDER that faults: unsaid, so the next free frame (R210). Log entry 9. -/
def spoilFrame (s : State) : State :=
  { s with fbi := Frame.free s.freeCount, freeCount := s.freeCount + 1 }

/-- RENDER (R210). -/
def execRender (s : State) : Result :=
  match renderFault s with
  | some f => raise f (spoilFrame s)
  | none => answerFrame { s with fbi := renderFrame s, fbValid := true }

/-- The two passes of RENDER as the spec writes them, over the frame buffer as it stands (R210, R211). -/
def renderLoop (s : State) : Except FaultRecord Frame :=
  (backgroundLoop s s.fbi).bind (spriteLoop s)

end Sys2Proof.Machine
end

