-- ==== Sys2Proof/Machine/Reserved.lean ====
section
/-! DEFINITION. The meanings of the two reserved requests (spec rule R78). -/

namespace Sys2Proof.Machine

/-- RESERVED_6 (R78): `refused` <- 1 and no other change; the gate stops the block at its next step (R246). -/
def execReserved6 (s : State) : Result := refuse s

/-- RESERVED_7 (R78): `refused` <- 1 and no other change; the gate stops the block at its next step (R246). -/
def execReserved7 (s : State) : Result := refuse s

end Sys2Proof.Machine
end

