-- ==== Sys2Proof/Machine/Timing.lean ====
section
/-! DEFINITION. The meanings of TICK and of the two host requests (spec rules R160 to R163). -/

namespace Sys2Proof.Machine

/-- TICK (R160): NOT_WIRED before WIRE_CPU; else one count of the frame counter. -/
def execTick (s : State) : Result :=
  if s.wired then finish (tickCount s) else raise .notWired s

/-- SET_INPUT (R163): the controller snapshot. -/
def execSetInput (d : Byte) (s : State) : Result := finish { s with joyState := d }

/-- WIRE_CPU (R162): the processor back-reference exists. -/
def execWireCpu (s : State) : Result := finish { s with wired := true }

end Sys2Proof.Machine
end

