-- ==== Sys2Proof/Machine/Writes.lean ====
section
/-! DEFINITION. The meanings of the bus writes (spec rules R100 to R113). -/

namespace Sys2Proof.Machine

/-- WR_PPUCTRL (R100): the byte is stored verbatim. -/
def execWrPpuctrl (d : Byte) (s : State) : Result := finish { s with ppuctrl := d }

/-- WR_PPUMASK (R101): accepted and discarded. -/
def execWrPpumask (_d : Byte) (s : State) : Result := finish s

/-- WR_OAMADDR (R102): accepted and discarded. -/
def execWrOamaddr (_d : Byte) (s : State) : Result := finish s

/-- WR_OAMDATA (R108): accepted and discarded; OAM is filled by DMA only. -/
def execWrOamdata (_d : Byte) (s : State) : Result := finish s

/-- WR_PPUSCROLL (R106): a nonzero byte is reported, and nothing else happens. -/
def execWrPpuscroll (d : Byte) (s : State) : Result :=
  finish (if d ≠ 0 then emit (.diagScroll d) s else s)

/-- WR_PPUADDR: the first write of a pair when `w` = 0 (R103), the second when `w` = 1 (R104). -/
def execWrPpuaddr (d : Byte) (s : State) : Result :=
  finish (if s.w then addressLow d s else addressHigh d s)

/-- WR_PPUDATA (R105): the byte goes to video memory at the cursor, and the cursor advances. -/
def execWrPpudata (d : Byte) (s : State) : Result :=
  if s.vOvf then raise (.vramOutOfRange s.word) s
  else finish (advance { s with vram := s.vram.write s.vAddr.toNat d })

/-- WR_OAMDMA (R109): 256 bytes of work RAM into OAM, or DMA_SOURCE_OUT_OF_RANGE before any byte changes. -/
def execWrOamdma (d : Byte) (s : State) : Result :=
  if dmaInRange s d then finish { s with oam := dmaCopy s d }
  else raise (.dmaSourceOutOfRange d) s

/-- WR_JOYSTROBE (R110): strobe mode, and the index reset while it is 1. -/
def execWrJoystrobe (d : Byte) (s : State) : Result := finish (strobe d s)

/-- WR_AUDIO_A (R111): the write is forwarded to the audio collaborator. -/
def execWrAudioA (d : Byte) (s : State) : Result := finish (emit (.apuWrite s.params.audioAddrA d) s)

/-- WR_AUDIO_B (R112): the write is forwarded to the audio collaborator. -/
def execWrAudioB (d : Byte) (s : State) : Result := finish (emit (.apuWrite s.params.audioAddrB d) s)

/-- WR_UNMAPPED (R113): a write with no write behaviour raises UNMAPPED_WRITE. -/
def execWrUnmapped (a : BusAddr) (d : Byte) (s : State) : Result := raise (.unmappedWrite a d) s

end Sys2Proof.Machine
end

