-- ==== Sys2Proof/Machine/Dispatch.lean ====
section
/-! DEFINITION. One arm for each request of the opcode table: the call of its meaning. -/

namespace Sys2Proof.Machine

def exec (i : Instr) (s : State) : Host.Outcome State Fault Refusal :=
  match i with
  -- bus reads (R140 to R143)
  | .rdPpustatus => Sys2Proof.Machine.execRdPpustatus s
  | .rdPpudata => Sys2Proof.Machine.execRdPpudata s
  | .rdJoy => Sys2Proof.Machine.execRdJoy s
  | .rdUnmapped a => Sys2Proof.Machine.execRdUnmapped a s
  -- bus writes (R100 to R113)
  | .wrPpuctrl d => Sys2Proof.Machine.execWrPpuctrl d s
  | .wrPpumask d => Sys2Proof.Machine.execWrPpumask d s
  | .wrOamaddr d => Sys2Proof.Machine.execWrOamaddr d s
  | .wrOamdata d => Sys2Proof.Machine.execWrOamdata d s
  | .wrPpuscroll d => Sys2Proof.Machine.execWrPpuscroll d s
  | .wrPpuaddr d => Sys2Proof.Machine.execWrPpuaddr d s
  | .wrPpudata d => Sys2Proof.Machine.execWrPpudata d s
  | .wrOamdma d => Sys2Proof.Machine.execWrOamdma d s
  | .wrJoystrobe d => Sys2Proof.Machine.execWrJoystrobe d s
  | .wrAudioA d => Sys2Proof.Machine.execWrAudioA d s
  | .wrAudioB d => Sys2Proof.Machine.execWrAudioB d s
  | .wrUnmapped a d => Sys2Proof.Machine.execWrUnmapped a d s
  -- timing, rendering and host requests (R160 to R163, R210)
  | .tick => Sys2Proof.Machine.execTick s
  | .render => Sys2Proof.Machine.execRender s
  | .setInput d => Sys2Proof.Machine.execSetInput d s
  | .wireCpu => Sys2Proof.Machine.execWireCpu s
  -- reserved requests (R78)
  | .reserved6 => Sys2Proof.Machine.execReserved6 s
  | .reserved7 => Sys2Proof.Machine.execReserved7 s

end Sys2Proof.Machine
end

