-- ==== Sys2Proof/Machine/Step.lean ====
section
/-! DEFINITION. One step of the block: what arrives next, through the sticky gate, and its meaning (spec rules
R11, R60, R246), and placing a request where the next step takes it. -/

namespace Sys2Proof.Machine

/-- One step. A stopped block has none (R246); with nothing arriving the block does nothing (R255); a request runs
whole (R11). -/
def step (s : State) : Host.Outcome State Fault Refusal :=
  match fetch s with
  | .stoppedByFault f => .fault (.stopped f)
  | .stoppedByRefusal => .refused .reservedRequest
  | .idle => .next s
  | .environment t => .next t
  | .request i t => exec i t

/-- The state in which the driver issues, before anything else, the request whose bits are `w` (a request word has
27 bits; there is one length, so `nbits` adds nothing). Log entry 1. -/
def State.withFetchWord (s : State) (_nbits w : Nat) : State :=
  { s with arrivals := .request (BitVec.ofNat 27 w) :: s.arrivals }

end Sys2Proof.Machine
end

