-- ==== Sys2Proof/Laws/Decode.lean ====
section
/-! SUPPORT. Laws of the request word: its fields, that the three fields are all of it, and the masks of the opcode
table. -/

namespace Sys2Proof

theorem requestWord_getLsbD (op : BitVec 3) (a : BusAddr) (d : Byte) (k : Nat) :
    (requestWord op a d).getLsbD k =
      if k < 8 then d.getLsbD k else if k < 24 then a.getLsbD (k - 8) else op.getLsbD (k - 24) := by
  unfold requestWord
  rw [BitVec.getLsbD_append, BitVec.getLsbD_append]
  by_cases h8 : k < 8
  · simp [h8]
  · by_cases h24 : k < 24
    · have : k - 8 < 16 := by omega
      simp [h8, h24, this]
    · have : ¬ k - 8 < 16 := by omega
      have e : k - 8 - 16 = k - 24 := by omega
      simp [h8, h24, this, e]

@[simp] theorem opField_requestWord (op : BitVec 3) (a : BusAddr) (d : Byte) :
    opField (requestWord op a d) = op := by
  refine BitVec.eq_of_getLsbD_eq fun k hk => ?_
  have h8 : ¬ 24 + k < 8 := by omega
  have h24 : ¬ 24 + k < 24 := by omega
  rw [opField, BitVec.getLsbD_extractLsb', requestWord_getLsbD]
  simp [h8, hk]

@[simp] theorem addrField_requestWord (op : BitVec 3) (a : BusAddr) (d : Byte) :
    addrField (requestWord op a d) = a := by
  refine BitVec.eq_of_getLsbD_eq fun k hk => ?_
  have h8 : ¬ 8 + k < 8 := by omega
  have h24 : 8 + k < 24 := by omega
  rw [addrField, BitVec.getLsbD_extractLsb', requestWord_getLsbD]
  simp [h24, hk]

@[simp] theorem dataField_requestWord (op : BitVec 3) (a : BusAddr) (d : Byte) :
    dataField (requestWord op a d) = d := by
  refine BitVec.eq_of_getLsbD_eq fun k hk => ?_
  rw [dataField, BitVec.getLsbD_extractLsb', requestWord_getLsbD]
  simp [hk]

/-- A request word is its three fields. -/
theorem requestWord_fields (w : ReqWord) : requestWord (opField w) (addrField w) (dataField w) = w := by
  refine BitVec.eq_of_getLsbD_eq fun k hk => ?_
  rw [requestWord_getLsbD]
  simp only [opField, addrField, dataField, BitVec.getLsbD_extractLsb']
  by_cases h8 : k < 8
  · simp [h8]
  · by_cases h24 : k < 24
    · have e : 8 + (k - 8) = k := by omega
      have l : k - 8 < 16 := by omega
      simp [h8, h24, e, l]
    · have e : 24 + (k - 24) = k := by omega
      have l : k - 24 < 3 := by omega
      simp [h8, h24, e, l]

/-- Decoding by the three fields. -/
theorem decode_requestWord (p : Params) (op : BitVec 3) (a : BusAddr) (d : Byte) :
    decode p (requestWord op a d) =
      match op.toNat with
      | 0 => readRow (decodedAddr p a)
      | 1 => writeRow p (decodedAddr p a) d
      | 2 => .tick
      | 3 => .render
      | 4 => .setInput d
      | 5 => .wireCpu
      | 6 => .reserved6
      | _ => .reserved7 := by
  simp only [decode, opField_requestWord, addrField_requestWord, dataField_requestWord]
  try rfl

/-- An address outside 0x2008 to 0x3FFF is no mirror, whatever the parameters. -/
theorem mirrored_outside (p : Params) (a : BusAddr) (h : a.toNat < 0x2008 ∨ 0x3FFF < a.toNat) :
    p.mirrored a = false := by
  simp only [Params.mirrored, Bool.and_eq_false_iff, decide_eq_false_iff_not]
  omega

/-- An address that is no mirror decodes as itself. -/
theorem decodedAddr_not_mirrored {p : Params} {a : BusAddr} (h : p.mirrored a = false) : decodedAddr p a = a := by
  simp [decodedAddr, h]

/-- A mask laid out as a request word keeps each field's masked bits. -/
theorem requestWord_and (op mop : BitVec 3) (a ma : BusAddr) (d md : Byte) :
    requestWord op a d &&& requestWord mop ma md = requestWord (op &&& mop) (a &&& ma) (d &&& md) := by
  refine BitVec.eq_of_getLsbD_eq fun k hk => ?_
  rw [BitVec.getLsbD_and]
  simp only [requestWord_getLsbD]
  split
  · simp
  · split <;> simp

/-- The whole-address mask of a specific row (R77). -/
theorem fullMask_fields : (0x7FFFF00 : ReqWord) = requestWord 7 0xFFFF 0 := by decide

/-- The mask of an eight-register row whose mirrors answer (R77). -/
theorem mirrorMask_fields : (0x7E00700 : ReqWord) = requestWord 7 0xE007 0 := by decide

/-- The mask of a row selected by op alone (R77). -/
theorem opMask_fields : (0x7000000 : ReqWord) = requestWord 7 0 0 := by decide

theorem and_allOnes3 (x : BitVec 3) : x &&& 7 = x := by revert x; decide

theorem and_allOnes16 (x : BusAddr) : x &&& 0xFFFF = x := by
  rw [show (0xFFFF : BusAddr) = BitVec.allOnes 16 from rfl, BitVec.and_allOnes]

theorem and_zero8 (d : Byte) : d &&& 0 = 0 := by simp

theorem and_zero16 (a : BusAddr) : a &&& 0 = 0 := by simp

end Sys2Proof
end

