-- ==== Sys2Proof/Laws/PerInstr.lean ====
section
/-! SUPPORT. The statement made of each request: its word carries the match value of its row of the opcode table under
the row's mask (spec rule R77). -/

namespace Sys2Proof.Laws.OpcodeRow

/-- Under the row's mask, the word of a request is the row's match value, whatever the parameters and the operands. -/
def Statement (i : Instr) : Prop := ∀ p : Params, encode p i &&& rowMask p i = rowMatch p i

/-- A row of one of the eight registers, with the mirrors off or on. -/
theorem registerRow (p : Params) (op : BitVec 3) (a : BusAddr) (d : Byte) (m : ReqWord)
    (h : requestWord op a 0 = m) (hm : a &&& 0xE007 = a) : requestWord op a d &&& ppuRowMask p = m := by
  unfold ppuRowMask
  split
  · rw [mirrorMask_fields, requestWord_and, and_allOnes3, hm, and_zero8, h]
  · rw [fullMask_fields, requestWord_and, and_allOnes3, and_allOnes16, and_zero8, h]

/-- A row with a whole address. -/
theorem addressRow (op : BitVec 3) (a : BusAddr) (d : Byte) (m : ReqWord) (h : requestWord op a 0 = m) :
    requestWord op a d &&& 0x7FFFF00 = m := by
  rw [fullMask_fields, requestWord_and, and_allOnes3, and_allOnes16, and_zero8, h]

/-- A row selected by op alone. -/
theorem opRow (op : BitVec 3) (a : BusAddr) (d : Byte) (m : ReqWord) (h : requestWord op 0 0 = m) :
    requestWord op a d &&& 0x7000000 = m := by
  rw [opMask_fields, requestWord_and, and_allOnes3, and_zero16, and_zero8, h]

theorem rdPpustatus : Statement .rdPpustatus := fun p => registerRow p _ _ _ _ rfl (by decide)
theorem rdPpudata : Statement .rdPpudata := fun p => registerRow p _ _ _ _ rfl (by decide)
theorem rdJoy : Statement .rdJoy := fun _ => addressRow _ _ _ _ rfl
theorem rdUnmapped (a : BusAddr) : Statement (.rdUnmapped a) := fun _ => opRow _ _ _ _ rfl
theorem wrPpuctrl (d : Byte) : Statement (.wrPpuctrl d) := fun p => registerRow p _ _ _ _ rfl (by decide)
theorem wrPpumask (d : Byte) : Statement (.wrPpumask d) := fun p => registerRow p _ _ _ _ rfl (by decide)
theorem wrOamaddr (d : Byte) : Statement (.wrOamaddr d) := fun p => registerRow p _ _ _ _ rfl (by decide)
theorem wrOamdata (d : Byte) : Statement (.wrOamdata d) := fun p => registerRow p _ _ _ _ rfl (by decide)
theorem wrPpuscroll (d : Byte) : Statement (.wrPpuscroll d) := fun p => registerRow p _ _ _ _ rfl (by decide)
theorem wrPpuaddr (d : Byte) : Statement (.wrPpuaddr d) := fun p => registerRow p _ _ _ _ rfl (by decide)
theorem wrPpudata (d : Byte) : Statement (.wrPpudata d) := fun p => registerRow p _ _ _ _ rfl (by decide)
theorem wrOamdma (d : Byte) : Statement (.wrOamdma d) := fun _ => addressRow _ _ _ _ rfl
theorem wrJoystrobe (d : Byte) : Statement (.wrJoystrobe d) := fun _ => addressRow _ _ _ _ rfl
theorem wrAudioA (d : Byte) : Statement (.wrAudioA d) := fun _ => addressRow _ _ _ _ rfl
theorem wrAudioB (d : Byte) : Statement (.wrAudioB d) := fun _ => addressRow _ _ _ _ rfl
theorem wrUnmapped (a : BusAddr) (d : Byte) : Statement (.wrUnmapped a d) := fun _ => opRow _ _ _ _ rfl
theorem tick : Statement .tick := fun _ => opRow _ _ _ _ rfl
theorem render : Statement .render := fun _ => opRow _ _ _ _ rfl
theorem setInput (d : Byte) : Statement (.setInput d) := fun _ => opRow _ _ _ _ rfl
theorem wireCpu : Statement .wireCpu := fun _ => opRow _ _ _ _ rfl
theorem reserved6 : Statement .reserved6 := fun _ => opRow _ _ _ _ rfl
theorem reserved7 : Statement .reserved7 := fun _ => opRow _ _ _ _ rfl

end Sys2Proof.Laws.OpcodeRow
end

