-- ==== Sys2Proof/Machine/Driver.lean ====
section
/-! DEFINITION. The driver's textual requests and pseudo-requests as the words they stand for (spec rules R81, R82). -/

namespace Sys2Proof.Driver

/-- `rd A` (R81). -/
def rd (a : BusAddr) : List ReqWord := [requestWord 0 a 0]

/-- `wr A, D` (R81). -/
def wr (a : BusAddr) (d : Byte) : List ReqWord := [requestWord 1 a d]

/-- `tick` (R81). -/
def tick : List ReqWord := [0x2000000]

/-- `render` (R81). -/
def render : List ReqWord := [0x3000000]

/-- `input D` (R81). -/
def input (d : Byte) : List ReqWord := [0x4000000 ||| d.setWidth 27]

/-- `wire` (R81). -/
def wire : List ReqWord := [0x5000000]

/-- `setaddr X`: the address pair, high byte first (R82). -/
def setaddr (x : BusAddr) : List ReqWord :=
  wr 0x2006 (x.extractLsb' 8 8) ++ wr 0x2006 (x.extractLsb' 0 8)

/-- `poke X, b0, …, bn` (R82). -/
def poke (x : BusAddr) (bytes : List Byte) : List ReqWord :=
  setaddr x ++ bytes.flatMap (wr 0x2007)

/-- `dma P` (R82). -/
def dma (page : Byte) : List ReqWord := wr 0x4014 page

/-- `repeat N` of the enclosed requests (R82). -/
def repeated (n : Nat) (body : List ReqWord) : List ReqWord := (List.replicate n body).flatten

/-- `ticks N` (R82). -/
def ticks (n : Nat) : List ReqWord := repeated n tick

/-- `strobe` (R82). -/
def strobe : List ReqWord := wr 0x4016 1 ++ wr 0x4016 0

end Sys2Proof.Driver
end

