-- ==== Sys2Proof/Safety.lean ====
section
/-! DEFINITION. What claims take as premises: a block that has neither faulted nor been refused (spec rule R273), and
the invariant of rule R48 with the canonical form of every memory. -/

namespace Sys2Proof.Machine

/-- No fault is recorded and no request has been refused: the premise of a claim about a final state (R273), and
exactly when the sticky gate lets a request through (R246). -/
abbrev State.running (s : State) : Prop := s.fault = none ∧ s.refused = false

/-- The invariant (R48; its clause on `fbi` holds by the type of a pixel): the parameters are legal, the counters
are in range, and every memory is in canonical form. -/
structure State.Inv (s : State) : Prop where
  paramsWf  : s.params.wf = true
  tickRange : s.tick < s.params.framePeriod
  joyRange  : s.joyIdx.toNat ≤ 8
  joyHeld   : s.joyStrobe = true → s.joyIdx = 0
  vramWf    : Memory.wf vramSize s.vram
  oamWf     : Memory.wf oamSize s.oam
  ptromWf   : Memory.wf ptRomSize s.ptrom
  wramWf    : Memory.wf s.params.wramSize s.wram

/-- The same request taken `n` times, one after the other. -/
def execTimes (i : Instr) : Nat → State → Host.Outcome State Fault Refusal
  | 0, s => .next s
  | n + 1, s =>
    match exec i s with
    | .next t => execTimes i n t
    | .fault f => .fault f
    | .refused r => .refused r

end Sys2Proof.Machine
end

