-- ==== Sys2Proof/Certificates/Slice0/Obligations.lean ====
section
/-! DEFINITION. The statements made of the model, each from numbered rules of the spec. A request's result is stated as
the next state it answers: a record update names every element the request changes, so it is the request's frame too. -/

open Sys2Proof Sys2Proof.Machine

/-! ### Encoding -/

/-- No bit of a request's encoding is dropped (R70, R72, R73). -/
def Obligations.DecodeOfEncodeIsTheRequest : Prop :=
  ∀ (p : Params) (i : Instr), p.wf = true → i.wf p = true → decode p (encode p i) = i

/-- Every word decodes to a well-formed request (R72, R73). -/
def Obligations.DecodeGivesAWellFormedRequest : Prop :=
  ∀ (p : Params) (w : ReqWord), (decode p w).wf p = true

/-- The decoder follows the opcode table (R77): a word carries the match value of the row it decodes to, and a word that
carries the match value of a row other than a catch-all decodes to that row. -/
def Obligations.DecodeFollowsTheOpcodeTable : Prop :=
  ∀ (p : Params) (w : ReqWord), p.wf = true →
    w &&& rowMask p (decode p w) = rowMatch p (decode p w) ∧
    ∀ i : Instr, (∀ a, i ≠ .rdUnmapped a) → (∀ a d, i ≠ .wrUnmapped a d) →
      w &&& rowMask p i = rowMatch p i → rowMatch p (decode p w) = rowMatch p i

/-- Field use (R74): the unused fields select nothing, and the used ones reach the register rule as they stand. -/
def Obligations.UnusedFieldsAreIgnored : Prop :=
  ∀ (p : Params) (a a' : BusAddr) (d d' : Byte),
    (∀ op : BitVec 3, op ≠ 0 → op ≠ 1 → op ≠ 4 →
      decode p (requestWord op a d) = decode p (requestWord op a' d')) ∧
    decode p (requestWord 0 a d) = readRow (decodedAddr p a) ∧
    decode p (requestWord 1 a d) = writeRow p (decodedAddr p a) d ∧
    decode p (requestWord 4 a d) = .setInput d

/-- Address decode (R73): the six op values that are no bus access select their request; with the mirrors on, 0x2008 to
0x3FFF answer as the eight registers; every other address is looked up exactly, in the column the op names. -/
def Obligations.MirrorsAnswerAsTheEightRegisters : Prop :=
  ∀ (p : Params) (a : BusAddr) (d : Byte),
    (decode p (requestWord 2 a d) = .tick ∧ decode p (requestWord 3 a d) = .render ∧
      decode p (requestWord 4 a d) = .setInput d ∧ decode p (requestWord 5 a d) = .wireCpu ∧
      decode p (requestWord 6 a d) = .reserved6 ∧ decode p (requestWord 7 a d) = .reserved7) ∧
    (p.mirrorPpuRegs = true → 0x2008 ≤ a.toNat → a.toNat ≤ 0x3FFF →
      decode p (requestWord 0 a d) = readRow (BitVec.ofNat 16 (0x2000 + a.toNat % 8)) ∧
      decode p (requestWord 1 a d) = writeRow p (BitVec.ofNat 16 (0x2000 + a.toNat % 8)) d) ∧
    (p.mirrorPpuRegs = false ∨ a.toNat < 0x2008 ∨ 0x3FFF < a.toNat →
      decode p (requestWord 0 a d) = readRow a ∧ decode p (requestWord 1 a d) = writeRow p a d)

/-- Words written out from the spec's own encodings decode to the requests they stand for (R70 to R72, R81). -/
def Obligations.SampleWordsDecode : Prop :=
  decodeTableWord 32 0x0200200 = some .rdPpustatus ∧
  decodeTableWord 32 0x0200755 = some .rdPpudata ∧
  decodeTableWord 32 0x0401600 = some .rdJoy ∧
  decodeTableWord 32 0x0200000 = some (.rdUnmapped 0x2000) ∧
  decodeTableWord 32 0x1200084 = some (.wrPpuctrl 0x84) ∧
  decodeTableWord 32 0x12007AA = some (.wrPpudata 0xAA) ∧
  decodeTableWord 32 0x1401402 = some (.wrOamdma 0x02) ∧
  decodeTableWord 32 0x2FFFFFF = some .tick ∧
  decodeTableWord 32 0x3000000 = some .render ∧
  decodeTableWord 32 0x4123456 = some (.setInput 0x56) ∧
  decodeTableWord 32 0x7FFFFFF = some .reserved7

/-- A request word is 27 bits (R70): every number of 27 bits gives the request its word decodes to. That a wider number
is refused by name is the model's choice (log entry 18): R70 gives it no behaviour. -/
def Obligations.OverlongNumbersAreNoRequests : Prop :=
  ∀ (p : Params) (n : Nat),
    (2 ^ 27 ≤ n → decodeWord p n = .error (.notARequestWord n)) ∧
    (n < 2 ^ 27 → decodeWord p n = .ok (decode p (BitVec.ofNat 27 n)))

/-! ### The step -/

/-- A running block takes the request at the head of the stream and runs what it decodes to (R3, R11, R60); the step
around it removes the request from the stream and holds its word, the model's form of a driver (log entries 1 and 13). -/
def Obligations.StepRunsTheDecodedRequest : Prop :=
  ∀ (s : State) (q : ReqWord) (rest : List Arrival), s.running → s.arrivals = .request q :: rest →
    step s = exec (decode s.params q) { s with arrivals := rest, word := q }

/-- The sticky gate (R246): a block that has faulted or been refused takes no step, whatever arrives, and any other
block takes one. That every other block does, with nothing arriving too, rests on R245 and log entry 2; that a block with
both marks stops by the fault is the model's order (log entry 4). -/
def Obligations.OnlyARunningBlockSteps : Prop :=
  ∀ s : State,
    ((∃ t, step s = .next t) ↔ s.running) ∧
    (∀ f, s.fault = some f → step s = .fault (.stopped f)) ∧
    (s.fault = none → s.refused = true → step s = .refused .reservedRequest)

/-- With nothing arriving a running block does nothing (R255); a store of the processor side changes the byte of work RAM
it names, when the address is in the segment, and nothing of the chip (R55). The step of an empty stream and the way a
store arrives are the model's (log entries 2 and 7). -/
def Obligations.EnvironmentChangesOnlyWorkRam : Prop :=
  ∀ (s : State), s.running →
    (s.arrivals = [] → step s = .next s) ∧
    ∀ (a : BusAddr) (v : Byte) (rest : List Arrival), s.arrivals = .wramStore a v :: rest →
      ∃ t, step s = .next t ∧ t = { s with arrivals := rest, wram := t.wram } ∧
        ∀ b : Nat, inWram s b = true →
          wramByte t b = if b = a.toNat then v else wramByte s b

/-! ### Register writes -/

/-- WR_PPUCTRL (R100). -/
def Obligations.ControlWriteStoresTheByte : Prop :=
  ∀ (d : Byte) (s : State), decode s.params (requestWord 1 0x2000 d) = .wrPpuctrl d ∧
    exec (.wrPpuctrl d) s = .next { s with ppuctrl := d, response := .nothing }

/-- WR_PPUMASK, WR_OAMADDR and WR_OAMDATA are accepted and discarded (R101, R102, R108). -/
def Obligations.DiscardedWritesChangeNothing : Prop :=
  ∀ (d : Byte) (s : State),
    (decode s.params (requestWord 1 0x2001 d) = .wrPpumask d ∧
      decode s.params (requestWord 1 0x2003 d) = .wrOamaddr d ∧
      decode s.params (requestWord 1 0x2004 d) = .wrOamdata d) ∧
    exec (.wrPpumask d) s = .next { s with response := .nothing } ∧
    exec (.wrOamaddr d) s = .next { s with response := .nothing } ∧
    exec (.wrOamdata d) s = .next { s with response := .nothing }

/-- WR_PPUSCROLL (R106): a nonzero byte is reported, a zero byte is not, and nothing else happens. -/
def Obligations.ScrollWriteReportsANonzeroByte : Prop :=
  ∀ (d : Byte) (s : State),
    decode s.params (requestWord 1 0x2005 d) = .wrPpuscroll d ∧
    (d ≠ 0 → exec (.wrPpuscroll d) s =
      .next { s with trace := s.trace ++ [.diagScroll d], response := .nothing }) ∧
    (d = 0 → exec (.wrPpuscroll d) s = .next { s with response := .nothing })

/-- WR_PPUADDR, first write of a pair (R103): the high six bits go into the cursor, and this write is the only way out of
the overflowed state, whichever request runs. -/
def Obligations.FirstAddressWriteSetsTheHighBits : Prop :=
  ∀ s : State,
    (∀ d : Byte, decode s.params (requestWord 1 0x2006 d) = .wrPpuaddr d ∧
      (s.w = false → exec (.wrPpuaddr d) s = .next { s with
        vAddr := BitVec.ofNat 14 (d.toNat % 64), vOvf := false, w := true, response := .nothing })) ∧
    (∀ i t, exec i s = .next t → s.vOvf = true → t.vOvf = false → s.w = false ∧ ∃ d, i = .wrPpuaddr d)

/-- WR_PPUADDR, second write of a pair (R104): in range when the stored value is at most 0x3F, overflowed otherwise. -/
def Obligations.SecondAddressWriteShiftsTheCursor : Prop :=
  ∀ (d : Byte) (s : State), s.w = true →
    decode s.params (requestWord 1 0x2006 d) = .wrPpuaddr d ∧
    (s.vOvf = false → s.vAddr.toNat < 64 → exec (.wrPpuaddr d) s = .next { s with
      vAddr := BitVec.ofNat 14 (s.vAddr.toNat * 256 + d.toNat), w := false, response := .nothing }) ∧
    (s.vOvf = true ∨ 64 ≤ s.vAddr.toNat → exec (.wrPpuaddr d) s = .next { s with
      vAddr := BitVec.ofNat 14 (s.vAddr.toNat * 256 + d.toNat), vOvf := true, w := false,
      response := .nothing })

/-- A pair of address writes leaves the cursor at `((H & 0b00111111) << 8) | L`, and a third write begins a new pair
(R103, R104; the source's property, vector W-§8-1). -/
def Obligations.AddressPairSetsTheCursor : Prop :=
  ∀ (hi lo third : Byte) (s : State), s.w = false →
    ∃ t u v, exec (.wrPpuaddr hi) s = .next t ∧ exec (.wrPpuaddr lo) t = .next u ∧
      u.vAddr.toNat = (hi.toNat % 64) * 256 + lo.toNat ∧ u.vOvf = false ∧ u.w = false ∧
      exec (.wrPpuaddr third) u = .next v ∧ v.vAddr.toNat = third.toNat % 64 ∧ v.w = true

/-- The pseudo-request `setaddr X` leaves the cursor at X with its top two bits masked off (R82, R103, R104). -/
def Obligations.SetaddrReachesItsAddress : Prop :=
  ∀ (x : BusAddr) (s : State), s.running → s.w = false →
    s.arrivals = (Driver.setaddr x).map .request →
    ∃ t, Sys2Proof.core.run 2 s = .next t ∧ t.vAddr.toNat = x.toNat % 0x4000 ∧ t.vOvf = false ∧
      t.w = false ∧ t.arrivals = []

/-- WR_PPUDATA (R105), with the advance of R107: the byte is stored at the cursor and no other byte changes; the cursor
advances by 32 or 1 and overflows past 0x3FFF; past the end the request faults and stores nothing. -/
def Obligations.DataWriteStoresAndAdvances : Prop :=
  ∀ (d : Byte) (s : State),
    decode s.params (requestWord 1 0x2007 d) = .wrPpudata d ∧
    (s.vOvf = false → ∃ t, exec (.wrPpudata d) s = .next t ∧
      t = { s with
        vram := t.vram
        vAddr := BitVec.ofNat 14 (s.vAddr.toNat + if s.ppuctrl.getLsbD 2 then 32 else 1)
        vOvf := decide (0x3FFF < s.vAddr.toNat + if s.ppuctrl.getLsbD 2 then 32 else 1)
        response := .nothing } ∧
      ∀ a : Nat, vramByte t a = if a = s.vAddr.toNat then d else vramByte s a) ∧
    (s.vOvf = true → ∃ q, exec (.wrPpudata d) s =
      .next { s with fault := some (.vramOutOfRange q), response := .nothing })

/-- A control write changes the step of the next data-port access, write or read, with no delay (R287). -/
def Obligations.ControlWriteChangesTheNextStep : Prop :=
  ∀ (c d : Byte) (s : State), s.vOvf = false → s.vAddr.toNat + 32 ≤ 0x3FFF →
    ∃ t u v, exec (.wrPpuctrl c) s = .next t ∧ exec (.wrPpudata d) t = .next u ∧ exec .rdPpudata t = .next v ∧
      u.vAddr.toNat = s.vAddr.toNat + (if c.getLsbD 2 then 32 else 1) ∧ u.vOvf = false ∧
      v.vAddr.toNat = s.vAddr.toNat + (if c.getLsbD 2 then 32 else 1) ∧ v.vOvf = false

/-- WR_OAMDMA (R109): when all 256 source addresses are in the work-RAM segment they are copied into OAM in order and
nothing else changes; otherwise the request faults before any byte changes. -/
def Obligations.DmaCopiesThePage : Prop :=
  ∀ (d : Byte) (s : State),
    decode s.params (requestWord 1 0x4014 d) = .wrOamdma d ∧
    ((∀ k < 256, s.params.wramBase.toNat ≤ d.toNat * 256 + k ∧
        d.toNat * 256 + k < s.params.wramBase.toNat + s.params.wramSize) →
      ∃ t, exec (.wrOamdma d) s = .next t ∧ t = { s with oam := t.oam, response := .nothing } ∧
        ∀ a : Nat, oamByte t a =
          if a < 256 then s.wram.read (d.toNat * 256 + a - s.params.wramBase.toNat) else oamByte s a) ∧
    ((∃ k < 256, d.toNat * 256 + k < s.params.wramBase.toNat ∨
        s.params.wramBase.toNat + s.params.wramSize ≤ d.toNat * 256 + k) →
      ∃ g, exec (.wrOamdma d) s =
        .next { s with fault := some (.dmaSourceOutOfRange g), response := .nothing })

/-- WR_JOYSTROBE (R110): bit 0 is the mode, a 1 resets the index, a 0 leaves it. -/
def Obligations.StrobeWriteSetsTheMode : Prop :=
  ∀ (d : Byte) (s : State),
    decode s.params (requestWord 1 0x4016 d) = .wrJoystrobe d ∧
    (d.getLsbD 0 = true → exec (.wrJoystrobe d) s =
      .next { s with joyStrobe := true, joyIdx := 0, response := .nothing }) ∧
    (d.getLsbD 0 = false → exec (.wrJoystrobe d) s =
      .next { s with joyStrobe := false, response := .nothing })

/-- WR_AUDIO_A and WR_AUDIO_B forward address and byte verbatim and change nothing in the chip (R111, R112). -/
def Obligations.AudioWritesAreForwarded : Prop :=
  ∀ (d : Byte) (s : State),
    (s.params.wf = true → decode s.params (requestWord 1 s.params.audioAddrA d) = .wrAudioA d ∧
      decode s.params (requestWord 1 s.params.audioAddrB d) = .wrAudioB d) ∧
    exec (.wrAudioA d) s = .next { s with
      trace := s.trace ++ [.apuWrite s.params.audioAddrA d], response := .nothing } ∧
    exec (.wrAudioB d) s = .next { s with
      trace := s.trace ++ [.apuWrite s.params.audioAddrB d], response := .nothing }

/-- RD_UNMAPPED and WR_UNMAPPED: an access at an address with no such row decodes to them, and they write the fault and
nothing else and return no data (R113, R143). The rows an address may not have are those of R72's two columns, and no
mirror that answers is such an address (R73). -/
def Obligations.UnmappedAccessesFault : Prop :=
  ∀ (a : BusAddr) (d : Byte) (s : State),
    ((s.params.mirrorPpuRegs = true → a.toNat < 0x2008 ∨ 0x3FFF < a.toNat) →
      (a ∉ [0x2002, 0x2007, 0x4016] → decode s.params (requestWord 0 a d) = .rdUnmapped a) ∧
      (a ∉ [0x2000, 0x2001, 0x2003, 0x2004, 0x2005, 0x2006, 0x2007, 0x4014, 0x4016,
          s.params.audioAddrA, s.params.audioAddrB] →
        decode s.params (requestWord 1 a d) = .wrUnmapped a d)) ∧
    exec (.rdUnmapped a) s = .next { s with fault := some (.unmappedRead a), response := .nothing } ∧
    exec (.wrUnmapped a d) s = .next { s with fault := some (.unmappedWrite a d), response := .nothing }

/-! ### Register reads -/

/-- RD_PPUDATA (R140): the buffered byte is returned, the buffer reloaded from the cursor, the cursor advanced; past the
end the request faults, returns nothing and does not refill the buffer. -/
def Obligations.DataReadReturnsTheBuffer : Prop :=
  ∀ s : State,
    (∀ d, decode s.params (requestWord 0 0x2007 d) = .rdPpudata) ∧
    (s.vOvf = false → exec .rdPpudata s = .next { s with
      rdbuf := vramByte s s.vAddr.toNat
      vAddr := BitVec.ofNat 14 (s.vAddr.toNat + if s.ppuctrl.getLsbD 2 then 32 else 1)
      vOvf := decide (0x3FFF < s.vAddr.toNat + if s.ppuctrl.getLsbD 2 then 32 else 1)
      response := .data s.rdbuf }) ∧
    (s.vOvf = true → ∃ q, exec .rdPpudata s =
      .next { s with fault := some (.vramOutOfRange q), response := .nothing })

/-- Reading twice at a fresh address yields the stale byte first and the real one second (R280; vector W-§8-2). -/
def Obligations.SecondDataReadReturnsTheByte : Prop :=
  ∀ s : State, s.vOvf = false → s.vAddr.toNat + (if s.ppuctrl.getLsbD 2 then 32 else 1) ≤ 0x3FFF →
    ∃ t u, exec .rdPpudata s = .next t ∧ exec .rdPpudata t = .next u ∧
      t.response = .data s.rdbuf ∧ u.response = .data (vramByte s s.vAddr.toNat)

/-- A data write does not refill the buffer: the read after it returns the byte buffered before it, even when the write
hit the address the buffer was read from (R280, R35). -/
def Obligations.ReadAfterDataWriteIsStale : Prop :=
  ∀ (d : Byte) (s : State), s.vOvf = false →
    s.vAddr.toNat + (if s.ppuctrl.getLsbD 2 then 32 else 1) ≤ 0x3FFF →
    ∃ t u, exec (.wrPpudata d) s = .next t ∧ exec .rdPpudata t = .next u ∧ u.response = .data s.rdbuf

/-- RD_PPUSTATUS (R141): the same byte on every read, with bit 7 set, and no side effect. -/
def Obligations.StatusReadIsFixed : Prop :=
  ∀ s : State, (∀ d, decode s.params (requestWord 0 0x2002 d) = .rdPpustatus) ∧
    ∃ v : Byte, exec .rdPpustatus s = .next { s with response := .data v } ∧
    v.toNat = 128 + s.params.statusLow.toNat

/-- RD_JOY (R142): 1 once the index exceeds 7; otherwise bit `joy_idx` of the snapshot, and the index advances unless
strobe mode holds it. -/
def Obligations.ControllerReadReturnsTheBit : Prop :=
  ∀ s : State,
    (∀ d, decode s.params (requestWord 0 0x4016 d) = .rdJoy) ∧
    (7 < s.joyIdx.toNat → exec .rdJoy s = .next { s with response := .data 1 }) ∧
    (s.joyIdx.toNat ≤ 7 → s.joyStrobe = true → exec .rdJoy s =
      .next { s with response := .data (if s.joyState.getLsbD s.joyIdx.toNat then 1 else 0) }) ∧
    (s.joyIdx.toNat ≤ 7 → s.joyStrobe = false → exec .rdJoy s = .next { s with
      joyIdx := BitVec.ofNat 4 (s.joyIdx.toNat + 1)
      response := .data (if s.joyState.getLsbD s.joyIdx.toNat then 1 else 0) })

/-- With strobe 0 the first eight reads return the bits of the snapshot in order, and every later one returns 1 (R142;
vector W-§8-4 as 90_conflicts.md C3 corrects it). -/
def Obligations.EightReadsReturnTheSnapshotInOrder : Prop :=
  ∀ (s : State) (k : Nat), s.joyStrobe = false → s.joyIdx = 0 →
    ∃ t u, execTimes .rdJoy k s = .next t ∧ exec .rdJoy t = .next u ∧
      u.response = .data (if k < 8 then (if s.joyState.getLsbD k then 1 else 0) else 1)

/-- While strobe is held at 1 every read returns bit 0 and the index never advances (R142; vector W-§8-5). -/
def Obligations.HeldStrobeReadsBitZero : Prop :=
  ∀ (s : State) (k : Nat), s.joyStrobe = true → s.joyIdx = 0 →
    ∃ t u, execTimes .rdJoy k s = .next t ∧ t.joyIdx = 0 ∧ exec .rdJoy t = .next u ∧
      u.response = .data (if s.joyState.getLsbD 0 then 1 else 0)

/-! ### Timing and host requests -/

/-- TICK (R160): the counter advances; at FRAME_PERIOD it is zero again and one NMI is emitted when `NMI_EN` is 1;
before WIRE_CPU the request faults. -/
def Obligations.TickCountsAndWraps : Prop :=
  ∀ s : State,
    (∀ w : ReqWord, w.extractLsb' 24 3 = 2 → decode s.params w = .tick) ∧
    (s.wired = true → s.tick + 1 ≠ s.params.framePeriod →
      exec .tick s = .next { s with tick := s.tick + 1, response := .nothing }) ∧
    (s.wired = true → s.tick + 1 = s.params.framePeriod → s.ppuctrl.getLsbD 7 = true →
      exec .tick s = .next { s with
        tick := 0, trace := s.trace ++ [.nmi s.params.nmiArg], response := .nothing }) ∧
    (s.wired = true → s.tick + 1 = s.params.framePeriod → s.ppuctrl.getLsbD 7 = false →
      exec .tick s = .next { s with tick := 0, response := .nothing }) ∧
    (s.wired = false → exec .tick s = .next { s with fault := some .notWired, response := .nothing })

/-- From a counter of zero the `n`-th TICK wraps exactly when `n` is a multiple of FRAME_PERIOD, and with `NMI_EN` set
throughout each wrap asserts exactly one NMI (R164). -/
def Obligations.TicksWrapOncePerFrame : Prop :=
  ∀ (s : State) (n : Nat), s.wired = true → s.tick = 0 → 1 ≤ s.params.framePeriod →
    ∃ t, execTimes .tick n s = .next t ∧ t.tick = n % s.params.framePeriod ∧
      t.trace = s.trace ++ List.replicate
        (if s.ppuctrl.getLsbD 7 then n / s.params.framePeriod else 0) (.nmi s.params.nmiArg) ∧
      t = { s with tick := t.tick, trace := t.trace, response := t.response }

/-- The frame wrap is the only path to the NMI (R161, R243): whatever request runs, the trace only grows, and an NMI among
the new events means a TICK that wrapped with `NMI_EN` = 1, and is the only new event, with the argument NMI_ARG. -/
def Obligations.OnlyAWrapAssertsNmi : Prop :=
  ∀ (i : Instr) (s t : State), exec i s = .next t →
    ∃ new, t.trace = s.trace ++ new ∧
      ∀ b, Event.nmi b ∈ new → i = .tick ∧ s.wired = true ∧ s.tick + 1 = s.params.framePeriod ∧
        s.ppuctrl.getLsbD 7 = true ∧ new = [.nmi s.params.nmiArg]

/-- WIRE_CPU and SET_INPUT write their one element (R162, R163). -/
def Obligations.HostRequestsWriteTheirElement : Prop :=
  ∀ (d : Byte) (s : State),
    (∀ a, decode s.params (requestWord 5 a d) = .wireCpu ∧ decode s.params (requestWord 4 a d) = .setInput d) ∧
    exec .wireCpu s = .next { s with wired := true, response := .nothing } ∧
    exec (.setInput d) s = .next { s with joyState := d, response := .nothing }

/-- A reserved request sets `refused`, changes no other element and returns nothing (R78, R242); where no fault is
recorded the next step is then refused (R246, through the gate of log entry 4). -/
def Obligations.ReservedRequestsAreRefused : Prop :=
  ∀ s : State,
    (∃ t, exec .reserved6 s = .next t ∧ t = { s with refused := true, response := .nothing } ∧
      (s.fault = none → step t = .refused .reservedRequest)) ∧
    (∃ t, exec .reserved7 s = .next t ∧ t = { s with refused := true, response := .nothing } ∧
      (s.fault = none → step t = .refused .reservedRequest))

/-! ### Rendering -/

/-- A tile pixel (R185): bit `7 - c` of plane 0, plus twice that bit of plane 1, in row `r`; with the default stride every
byte read is inside the ROM. -/
def Obligations.TilePixelReadsTheTwoPlanes : Prop :=
  ∀ (s : State) (k : Bool) (t : Byte) (r c base : Nat), r < 8 → c < 8 →
    base = s.params.ptStride * k.toNat + 16 * t.toNat →
    (s.params.ptStride = 0x1000 → base + 15 < 16384) ∧
    (base + 15 < 16384 →
      (tilePixel s k t r c).toNat =
        ((s.ptrom.read (base + r)).toNat / 2 ^ (7 - c)) % 2 +
          2 * (((s.ptrom.read (base + 8 + r)).toNat / 2 ^ (7 - c)) % 2))

/-- The palette group of a background cell (R183): the 2-bit field, of the attribute byte of its 4 by 4 block, that its
quadrant selects. -/
def Obligations.AttributeGroupIsTheQuadrantField : Prop :=
  ∀ (s : State) (tx ty : Nat),
    attrGroup s tx ty =
      ((vramByte s (0x2000 + 0x400 * (s.ppuctrl.toNat % 4) + 0x3C0 + 8 * (ty / 4) + tx / 4)).toNat /
        4 ^ (2 * (ty / 2 % 2) + tx / 2 % 2)) % 4

/-- PaletteLookup (R186): the palette byte when it is at most 63; above that a fault, or its low six bits, as the policy
says. -/
def Obligations.PaletteLookupChecksTheByte : Prop :=
  ∀ (s : State) (g : Nat) (i : PixelIndex) (e : Byte), e = vramByte s (0x3F00 + 4 * g + i.toNat) →
    (e.toNat ≤ 63 → paletteFault s g i = none ∧ (paletteColor s g i).toNat = e.toNat) ∧
    (63 < e.toNat → s.params.colorPolicy = .fault →
      paletteFault s g i = some (.colorIndexOutOfRange (0x3F00 + 4 * g + i.toNat) e)) ∧
    (63 < e.toNat → s.params.colorPolicy = .mask6 →
      paletteFault s g i = none ∧ (paletteColor s g i).toNat = e.toNat % 64)

/-- A background pixel (R180 to R184, R187, R188): at column `x`, row `y`, it is tile pixel (row `y % 8`, column `x % 8`),
in table `ppuctrl[4]`, of the tile named by the nametable byte of cell (`x / 8`, `y / 8`), coloured from that cell's
palette group, its index 0 like any other; and the frame of a RENDER that completes shows it where no sprite is opaque. -/
def Obligations.BackgroundPixelsAreTheFetchedTiles : Prop :=
  ∀ (s : State) (x : Fin 256) (y : Fin 240) (i : PixelIndex),
    i = tilePixel s (s.ppuctrl.getLsbD 4)
      (vramByte s (0x2000 + 0x400 * (s.ppuctrl.toNat % 4) + 32 * (y / 8) + x / 8)) (y % 8) (x % 8) →
    backgroundColor s x y = paletteColor s (attrGroup s (x / 8) (y / 8)) i ∧
    (backgroundColor s x y).toNat =
      (vramByte s (0x3F00 + 4 * attrGroup s (x / 8) (y / 8) + i.toNat)).toNat % 64 ∧
    (∀ t, exec .render s = .next t → t.response = .frame → (∀ n < 64, spriteColor s n x y = none) →
      t.fbi.pixel x y = paletteColor s (attrGroup s (x / 8) (y / 8)) i)

/-- A sprite on the screen (R213, R214, R216 to R221): the pixel of row `r`, column `c` lands at column `X + c`, row
`Y + SPRITE_Y_OFFSET + r`; it is the tile's pixel picked by the flips, from table `ppuctrl[3]`, coloured from group
`4 + A[1:0]`, and paints nothing when its index is 0; a sprite with Y = 255 paints nothing anywhere. -/
def Obligations.SpritePixelsLandWhereTheRulesSay : Prop :=
  ∀ (s : State) (n : Nat) (y a x : Byte),
    y = oamByte s (4 * n) → a = oamByte s (4 * n + 2) → x = oamByte s (4 * n + 3) →
    (y = 255 → ∀ px py, spriteColor s n px py = none) ∧
    (y ≠ 255 → ∀ r < 8, ∀ c < 8, ∀ i : PixelIndex,
      i = tilePixel s (s.ppuctrl.getLsbD 3) (oamByte s (4 * n + 1))
        (if a.getLsbD 7 then 7 - r else r) (if a.getLsbD 6 then 7 - c else c) →
      spriteColor s n (x.toNat + c) (y.toNat + s.params.spriteYOffset.val + r) =
        if i = 0 then none else some (paletteColor s (4 + a.toNat % 4) i)) ∧
    (∀ px py, spriteColor s n px py ≠ none →
      x.toNat ≤ px ∧ px < x.toNat + 8 ∧
      y.toNat + s.params.spriteYOffset.val ≤ py ∧ py < y.toNat + s.params.spriteYOffset.val + 8)

/-- RENDER completes (R210) whenever sprites are 8 by 8, no palette byte of 0x3F00 to 0x3F1F is above 63 (or such a byte
is masked, R186), and no sprite reaches past the edge (or its pixels there are clipped, R221): it writes the frame and its
valid mark and nothing else, and each pixel is the background's colour with the sprites over it. -/
def Obligations.RenderCompletesOnACleanPalette : Prop :=
  ∀ s : State, s.ppuctrl.getLsbD 5 = false →
    (s.params.colorPolicy = .mask6 ∨ ∀ k < 32, (vramByte s (0x3F00 + k)).toNat ≤ 63) →
    (s.params.spriteEdge = .clip ∨ ∀ n < 64, oamByte s (4 * n) = 255 ∨
      ((oamByte s (4 * n + 3)).toNat ≤ 248 ∧
        (oamByte s (4 * n)).toNat + s.params.spriteYOffset.val ≤ 232)) →
    ∃ t, exec .render s = .next t ∧ t = { s with fbi := t.fbi, fbValid := true, response := .frame } ∧
      ∀ x y, t.fbi.pixel x y = overlay s x y (backgroundColor s x y)

/-- The frame and the fault of RENDER are those of the two loops the spec writes, run over the frame buffer as it stands
(R180, R210, R211, R212, R247): the background pass cell by cell, then the sprites in order, each stopping at its first
fault. The per-pixel form is the model's (log entry 20),
and so are the free frame and its counter after a fault (log entry 9). -/
def Obligations.RenderIsTheSpecsTwoLoops : Prop :=
  ∀ s : State,
    (∀ f, renderLoop s = .error f →
      exec .render s = .next { s with
        fault := some f, fbi := Frame.free s.freeCount, freeCount := s.freeCount + 1,
        response := .nothing }) ∧
    (∀ fr, renderLoop s = .ok fr →
      exec .render s = .next { s with fbi := fr, fbValid := true, response := .frame })

/-- The frame of a RENDER that does not fault is a function of what R232 lists alone: two states that agree there render
the same colour indices and, with the same colour table, the same RGB frame. -/
def Obligations.FrameDependsOnlyOnWhatIsListed : Prop :=
  ∀ s t : State,
    s.ppuctrl.extractLsb' 0 2 = t.ppuctrl.extractLsb' 0 2 →
    s.ppuctrl.getLsbD 3 = t.ppuctrl.getLsbD 3 → s.ppuctrl.getLsbD 4 = t.ppuctrl.getLsbD 4 →
    s.ppuctrl.getLsbD 5 = t.ppuctrl.getLsbD 5 →
    (∀ a, 0x2000 ≤ a → a ≤ 0x2FFF → vramByte s a = vramByte t a) →
    (∀ a, 0x3F00 ≤ a → a ≤ 0x3F1F → vramByte s a = vramByte t a) →
    (∀ a < 256, oamByte s a = oamByte t a) → (∀ a < 16384, s.ptrom.read a = t.ptrom.read a) →
    s.params.ptStride = t.params.ptStride → s.params.spriteYOffset = t.params.spriteYOffset →
    s.params.spriteEdge = t.params.spriteEdge → s.params.colorPolicy = t.params.colorPolicy →
    s.params.hwPalette = t.params.hwPalette →
    ∀ s', exec .render s = .next s' → s'.response = .frame →
      ∃ t', exec .render t = .next t' ∧ t'.response = .frame ∧ t'.fbi = s'.fbi ∧
        ∀ x y, fb t' x y = fb s' x y

/-- Where opaque sprite pixels meet, the highest-numbered sprite's is left; where no sprite is opaque, the background's
(R211, R220, R222, R223). -/
def Obligations.HighestOpaqueSpriteWins : Prop :=
  ∀ (s t : State), exec .render s = .next t → t.response = .frame → ∀ (x : Fin 256) (y : Fin 240),
    ((∀ n < 64, spriteColor s n x y = none) → t.fbi.pixel x y = backgroundColor s x y) ∧
    (∀ n < 64, ∀ c, spriteColor s n x y = some c → (∀ m < 64, n < m → spriteColor s m x y = none) →
      t.fbi.pixel x y = c)

/-- 8 by 16 sprites fault (R215): with `ppuctrl[5]` = 1 and a background that raises nothing, RENDER records
SPRITE_8X16_UNIMPLEMENTED whatever OAM holds; only the unsaid frame and its counter change besides. -/
def Obligations.TallSpritesFault : Prop :=
  ∀ s : State, s.ppuctrl.getLsbD 5 = true →
    (s.params.colorPolicy = .mask6 ∨ ∀ k < 16, (vramByte s (0x3F00 + k)).toNat ≤ 63) →
    ∃ t, exec .render s = .next t ∧ t.fault = some .sprite8x16Unimplemented ∧
      t = { s with
        fault := some .sprite8x16Unimplemented, fbi := t.fbi, freeCount := t.freeCount,
        response := .nothing }

/-- A background palette byte above 63 that the frame reads faults before the sprite pass is looked at (R247), even with
8 by 16 sprites selected. Pixel (`r`, `c`) of cell (`tx`, `ty`) reads the palette byte at `adr tx ty r c`. If any such
byte is above 63 a background colour fault is recorded; and the one recorded is the first in the order cell row, cell
column, pixel row, pixel column, with its address and byte (R186). Besides it only the unsaid frame and its counter change
(log entry 9). -/
def Obligations.BackgroundColorFaultComesFirst : Prop :=
  ∀ (s : State) (adr : Nat → Nat → Nat → Nat → Nat),
    (∀ tx ty r c, adr tx ty r c = 0x3F00 + 4 * attrGroup s tx ty +
      (tilePixel s (s.ppuctrl.getLsbD 4)
        (vramByte s (0x2000 + 0x400 * (s.ppuctrl.toNat % 4) + 32 * ty + tx)) r c).toNat) →
    s.params.colorPolicy = .fault → ∀ tx < 32, ∀ ty < 30, ∀ r < 8, ∀ c < 8,
    63 < (vramByte s (adr tx ty r c)).toNat →
    (∃ t a e, exec .render s = .next t ∧ t.fault = some (.colorIndexOutOfRange a e) ∧
      0x3F00 ≤ a ∧ a ≤ 0x3F0F ∧ e = vramByte s a ∧ 63 < e.toNat ∧ t.fbValid = s.fbValid) ∧
    ((∀ tx' < 32, ∀ ty' < 30, ∀ r' < 8, ∀ c' < 8,
        ty' < ty ∨ ty' = ty ∧ (tx' < tx ∨ tx' = tx ∧ (r' < r ∨ r' = r ∧ c' < c)) →
        (vramByte s (adr tx' ty' r' c')).toNat ≤ 63) →
      ∃ t, exec .render s = .next t ∧ t = { s with
        fault := some (.colorIndexOutOfRange (adr tx ty r c) (vramByte s (adr tx ty r c)))
        fbi := t.fbi, freeCount := t.freeCount, response := .nothing })

/-- The sprite pass raises its first fault (R186, R212, R221, R247). With 8 by 8 sprites and a background that raises
nothing, let pixel (`r`, `c`) of sprite `n`, with tile pixel `pix n r c`, land at column `col n c`, row `row n r`, and read
the palette byte at `pal n r c`. If it is the first opaque pixel of a sprite not hidden that raises anything, in the order
sprite, row, column, then past column 255 or row 239 under SPRITE_EDGE = fault RENDER records SPRITE_OFF_SCREEN with the
sprite's number, and on the screen with a byte above 63 under COLOR_POLICY = fault COLOR_INDEX_OUT_OF_RANGE with the
address and the byte. Besides it only the unsaid frame and its counter change (log entry 9). -/
def Obligations.SpritePassRaisesItsFirstFault : Prop :=
  ∀ (s : State) (pix : Nat → Nat → Nat → PixelIndex) (col row : Nat → Nat → Nat) (pal : Nat → Nat → Nat → Nat),
    (∀ n r c, pix n r c = tilePixel s (s.ppuctrl.getLsbD 3) (oamByte s (4 * n + 1))
      (if (oamByte s (4 * n + 2)).getLsbD 7 then 7 - r else r)
      (if (oamByte s (4 * n + 2)).getLsbD 6 then 7 - c else c)) →
    (∀ n c, col n c = (oamByte s (4 * n + 3)).toNat + c) →
    (∀ n r, row n r = (oamByte s (4 * n)).toNat + s.params.spriteYOffset.val + r) →
    (∀ n r c, pal n r c = 0x3F00 + 4 * (4 + (oamByte s (4 * n + 2)).toNat % 4) + (pix n r c).toNat) →
    s.ppuctrl.getLsbD 5 = false →
    (s.params.colorPolicy = .mask6 ∨ ∀ k < 16, (vramByte s (0x3F00 + k)).toNat ≤ 63) →
    ∀ n < 64, ∀ r < 8, ∀ c < 8, oamByte s (4 * n) ≠ 255 → pix n r c ≠ 0 →
    (∀ m < 64, ∀ q < 8, ∀ d < 8, m < n ∨ m = n ∧ (q < r ∨ q = r ∧ d < c) →
      oamByte s (4 * m) = 255 ∨ pix m q d = 0 ∨
      if 255 < col m d ∨ 239 < row m q then s.params.spriteEdge = .clip
      else s.params.colorPolicy = .mask6 ∨ (vramByte s (pal m q d)).toNat ≤ 63) →
    (255 < col n c ∨ 239 < row n r → s.params.spriteEdge = .fault →
      ∃ t, exec .render s = .next t ∧ t = { s with
        fault := some (.spriteOffScreen n), fbi := t.fbi, freeCount := t.freeCount, response := .nothing }) ∧
    (col n c ≤ 255 → row n r ≤ 239 → s.params.colorPolicy = .fault → 63 < (vramByte s (pal n r c)).toNat →
      ∃ t, exec .render s = .next t ∧ t = { s with
        fault := some (.colorIndexOutOfRange (pal n r c) (vramByte s (pal n r c)))
        fbi := t.fbi, freeCount := t.freeCount, response := .nothing })

/-! ### The whole machine -/

/-- The invariant of R48, with the canonical form of every memory, is kept by every step. -/
def Obligations.StepKeepsTheInvariant : Prop :=
  ∀ s t : State, s.Inv → step s = .next t → t.Inv

/-- The state after reset meets the invariant. Its drawn elements are the launch premise ZERO_INIT's
(log entry 5), its image and memories are zeros (log entries 6 and 8), its parameters those of log entries 10 and 11. -/
def Obligations.ResetMeetsTheInvariant : Prop := State.reset.Inv ∧ State.reset.running

/-- Construction (R270, R46): from an image of the expected size every fixed element has its reset value, every drawn one
the value drawn for it, the ROM holds the image, and the block is running; legal parameters and memories then meet the
invariant. That the parameters, work RAM and the stream are inputs of it is the model's form of R273 (log entries 1, 7
and 10). -/
def Obligations.ConstructionSetsTheFixedElements : Prop :=
  ∀ c : Construction, c.image.length = 16384 →
    ((construct c).vOvf = false ∧ (construct c).w = false ∧ (construct c).tick = 0 ∧
      (construct c).joyStrobe = false ∧ (construct c).joyIdx = 0 ∧ (construct c).wired = false ∧
      (construct c).fbValid = false ∧ (construct c).fault = none ∧ (construct c).refused = false) ∧
    ((construct c).ppuctrl = c.ppuctrl ∧ (construct c).vAddr = c.vAddr ∧ (construct c).rdbuf = c.rdbuf ∧
      (construct c).vram = c.vram ∧ (construct c).oam = c.oam ∧ (construct c).joyState = c.joyState ∧
      (construct c).fbi = c.fbi) ∧
    ((construct c).params = c.params ∧ (construct c).wram = c.wram ∧ (construct c).arrivals = c.stream ∧
      (construct c).trace = [] ∧ (construct c).response = .nothing) ∧
    (∀ k (h : k < c.image.length), (construct c).ptrom.read k = c.image[k]) ∧
    (c.params.wf = true → Memory.wf vramSize c.vram → Memory.wf oamSize c.oam →
      Memory.wf c.params.wramSize c.wram → (construct c).Inv)

/-- Construction with an image of another size faults, and the block takes no request (R270, R246). -/
def Obligations.WrongImageSizeStopsTheBlock : Prop :=
  ∀ c : Construction, c.image.length ≠ 16384 →
    (construct c).fault = some (.badPatternRomSize c.image.length) ∧
    step (construct c) = .fault (.stopped (.badPatternRomSize c.image.length))

/-- Each element of the state is written only by the requests that R20's table names; the pattern ROM and the parameters
by none (R39). -/
def Obligations.EachElementHasItsWriters : Prop :=
  ∀ (i : Instr) (s t : State), exec i s = .next t →
    (t.ppuctrl ≠ s.ppuctrl → ∃ d, i = .wrPpuctrl d) ∧
    (t.vAddr ≠ s.vAddr ∨ t.vOvf ≠ s.vOvf →
      (∃ d, i = .wrPpuaddr d) ∨ (∃ d, i = .wrPpudata d) ∨ i = .rdPpudata) ∧
    (t.w ≠ s.w → ∃ d, i = .wrPpuaddr d) ∧
    (t.rdbuf ≠ s.rdbuf → i = .rdPpudata) ∧
    (t.vram ≠ s.vram → ∃ d, i = .wrPpudata d) ∧
    (t.oam ≠ s.oam → ∃ d, i = .wrOamdma d) ∧
    (t.tick ≠ s.tick → i = .tick) ∧
    (t.joyState ≠ s.joyState → ∃ d, i = .setInput d) ∧
    (t.joyStrobe ≠ s.joyStrobe → ∃ d, i = .wrJoystrobe d) ∧
    (t.joyIdx ≠ s.joyIdx → (∃ d, i = .wrJoystrobe d) ∨ i = .rdJoy) ∧
    (t.wired ≠ s.wired → i = .wireCpu) ∧
    (t.fbi ≠ s.fbi ∨ t.fbValid ≠ s.fbValid ∨ t.freeCount ≠ s.freeCount → i = .render) ∧
    (t.refused ≠ s.refused → i = .reserved6 ∨ i = .reserved7) ∧
    t.ptrom = s.ptrom ∧ t.params = s.params ∧ t.wram = s.wram ∧ t.arrivals = s.arrivals ∧ t.word = s.word

/-- Which bytes a request stores (R105, R109): a byte of video memory that differs after a request is the one at the
cursor of a data write that was in range; a byte of OAM that differs is one of the 256 of a DMA in range; every byte of
the pattern ROM and of work RAM reads as before. -/
def Obligations.StoresTouchOnlyTheirBytes : Prop :=
  ∀ (i : Instr) (s t : State), exec i s = .next t → ∀ a : Nat,
    (vramByte t a ≠ vramByte s a → s.vOvf = false ∧ a = s.vAddr.toNat ∧ ∃ d, i = .wrPpudata d) ∧
    (oamByte t a ≠ oamByte s a → a < 256 ∧ ∃ d, i = .wrOamdma d ∧ dmaInRange s d = true) ∧
    romByte t a = romByte s a ∧ wramByte t a = wramByte s a

/-- Faults are precise (R245): when a request other than RENDER records a fault, nothing else has changed and no data is
returned. -/
def Obligations.FaultsLeaveEverythingElse : Prop :=
  ∀ (i : Instr) (s t : State) (f : FaultRecord), i ≠ .render → exec i s = .next t → s.fault = none →
    t.fault = some f → t = { s with fault := some f, response := .nothing }

/-- What each fault records (R241): the nine codes, and the information of every fault that has any. For RENDER it says of
whatever fault is recorded that its information is that of an occasion for it: a palette byte above 63 with its address,
or a sprite that is not hidden with an opaque pixel past the edge. The pseudocode of R105, R140 and R109 writes the cursor
and the source address where R241's column names the request word and the page; that the column is followed is the
model's reading (log entries 13 and 14). -/
def Obligations.FaultRecordsHoldTheirInfo : Prop :=
  (∀ (d : Byte) (s : State), s.vOvf = true → ∃ t u, exec (.wrPpudata d) s = .next t ∧ exec .rdPpudata s = .next u ∧
    t.fault = some (.vramOutOfRange s.word) ∧ u.fault = some (.vramOutOfRange s.word)) ∧
  (∀ (d : Byte) (s : State), (∃ k < 256, inWram s (d.toNat * 256 + k) = false) →
    ∃ t, exec (.wrOamdma d) s = .next t ∧ t.fault = some (.dmaSourceOutOfRange d)) ∧
  (∀ (a : BusAddr) (d : Byte) (s : State), ∃ t u, exec (.rdUnmapped a) s = .next t ∧
    exec (.wrUnmapped a d) s = .next u ∧ t.fault = some (.unmappedRead a) ∧ u.fault = some (.unmappedWrite a d)) ∧
  (∀ s : State, s.wired = false → ∃ t, exec .tick s = .next t ∧ t.fault = some .notWired) ∧
  (∀ c : Construction, c.image.length ≠ 16384 →
    (construct c).fault = some (.badPatternRomSize c.image.length)) ∧
  (∀ (s t : State) (f : FaultRecord), exec .render s = .next t → s.fault = none → t.fault = some f →
    (f = .sprite8x16Unimplemented ∧ s.ppuctrl.getLsbD 5 = true) ∨
    (∃ a e, f = .colorIndexOutOfRange a e ∧ s.params.colorPolicy = .fault ∧ 0x3F00 ≤ a ∧ a ≤ 0x3F1F ∧
      e = vramByte s a ∧ 63 < e.toNat) ∨
    (∃ n < 64, ∃ r < 8, ∃ c < 8, f = .spriteOffScreen n ∧ s.params.spriteEdge = .fault ∧ oamByte s (4 * n) ≠ 255 ∧
      tilePixel s (s.ppuctrl.getLsbD 3) (oamByte s (4 * n + 1))
        (if (oamByte s (4 * n + 2)).getLsbD 7 then 7 - r else r)
        (if (oamByte s (4 * n + 2)).getLsbD 6 then 7 - c else c) ≠ 0 ∧
      (255 < (oamByte s (4 * n + 3)).toNat + c ∨
        239 < (oamByte s (4 * n)).toNat + s.params.spriteYOffset.val + r))) ∧
  (∀ (q : ReqWord) (a : BusAddr) (d e : Byte) (n : Nat),
    [FaultRecord.vramOutOfRange q, .dmaSourceOutOfRange d, .sprite8x16Unimplemented, .colorIndexOutOfRange n e,
      .unmappedRead a, .unmappedWrite a d, .notWired, .badPatternRomSize n, .spriteOffScreen n].map faultCode =
      [1, 2, 3, 4, 5, 6, 7, 8, 9])

/-- Requests that R58 calls idempotent: taking one twice leaves the state of taking it once. For the DMA, OAM is in
canonical form and work RAM is unchanged between the two. -/
def Obligations.IdempotentRequests : Prop :=
  ∀ (d : Byte) (s t : State), Memory.wf oamSize s.oam →
    ∀ i ∈ [Instr.rdPpustatus, .wrPpuctrl d, .wrPpumask d, .wrOamaddr d, .wrOamdata d, .wrOamdma d,
      .wrJoystrobe d], exec i s = .next t → exec i t = .next t
end

