-- ==== Sys2Proof/Laws/Frame.lean ====
section
/-! SUPPORT. Laws of the frame buffer: reading a tabulated frame, reading after painting, and equality by pixels. -/

namespace Sys2Proof.Machine

@[simp] theorem Frame.pixel_tabulate (f : Fin 256 → Fin 240 → Color) (x : Fin 256) (y : Fin 240) :
    (Frame.tabulate f).pixel x y = f x y := by
  unfold Frame.tabulate Frame.pixel
  rw [Fin.getElem_fin, Fin.getElem_fin, Vector.getElem_ofFn, Vector.getElem_ofFn]

/-- Painting one pixel changes that pixel and no other. -/
theorem Frame.pixel_paint (fr : Frame) (x x' : Fin 256) (y y' : Fin 240) (c : Color) :
    (fr.paint x y c).pixel x' y' = if x' = x ∧ y' = y then c else fr.pixel x' y' := by
  simp only [Frame.paint, Frame.pixel, Fin.getElem_fin, Vector.getElem_set, Fin.ext_iff]
  by_cases hy : y.val = y'.val
  · by_cases hx : x.val = x'.val
    · simp [hx, hy]
    · simp [hx, hy, Ne.symm hx]
  · simp [hy, Ne.symm hy]

/-- Two frames with the same pixels are the same frame. -/
theorem Frame.ext_pixel {fr gr : Frame} (h : ∀ x y, fr.pixel x y = gr.pixel x y) : fr = gr := by
  obtain ⟨a⟩ := fr
  obtain ⟨b⟩ := gr
  congr 1
  refine Vector.ext fun y hy => Vector.ext fun x hx => ?_
  exact h ⟨x, hx⟩ ⟨y, hy⟩

end Sys2Proof.Machine
end

