-- ==== Sys2Proof/Laws/Memory.lean ====
section
/-! SUPPORT. Laws of a memory: a read after a write, the canonical form that every operation keeps, and the memory
of an image. -/

namespace Sys2Proof.Machine

theorem Memory.read_insertCell (c : Host.Cell) (m : Memory) (a : Nat) (h : ∀ b ∈ m, b.1 ≠ c.1) :
    (Memory.insertCell c m).read a = if c.1 = a then c.2 else m.read a := by
  induction m with
  | nil => rfl
  | cons b rest ih =>
    have hb : b.1 ≠ c.1 := h b (by simp)
    have ih := ih fun x hx => h x (List.mem_cons_of_mem _ hx)
    simp only [Memory.insertCell]
    split
    · simp only [Memory.read]
    · simp only [Memory.read, ih]
      by_cases hca : c.1 = a
      · have : b.1 ≠ a := hca ▸ hb
        simp [hca, this]
      · simp [hca]

theorem Memory.read_filter_other (m : Memory) (a b : Nat) (h : b ≠ a) :
    Memory.read (m.filter fun c => c.1 != a) b = m.read b := by
  induction m with
  | nil => rfl
  | cons c rest ih =>
    by_cases hc : c.1 = a
    · have : c.1 ≠ b := fun e => h (e ▸ hc)
      simp [Memory.read, hc, ih, Ne.symm h]
    · simp [Memory.read, hc, ih]

theorem Memory.read_filter_same (m : Memory) (a : Nat) :
    Memory.read (m.filter fun c => c.1 != a) a = Memory.unlisted := by
  induction m with
  | nil => rfl
  | cons c rest ih => by_cases hc : c.1 = a <;> simp [Memory.read, hc, ih]

/-- A read gives what was written there, and any other address is left alone. -/
theorem Memory.read_write (m : Memory) (a b : Nat) (v : Byte) :
    (m.write a v).read b = if b = a then v else m.read b := by
  have hne : ∀ c ∈ m.filter (fun c => c.1 != a), c.1 ≠ ((a, v) : Host.Cell).1 := by simp
  have hins := Memory.read_insertCell (a, v) _ b hne
  by_cases hba : b = a
  · subst hba
    by_cases hv : v = Memory.unlisted
    · simp [Memory.write, hv, Memory.read_filter_same]
    · simpa [Memory.write, hv] using hins
  · by_cases hv : v = Memory.unlisted
    · simp [Memory.write, hv, hba, Memory.read_filter_other _ _ _ hba]
    · simpa [Memory.write, hv, hba, Ne.symm hba, Memory.read_filter_other _ _ _ hba] using hins

@[simp] theorem Memory.read_write_same (m : Memory) (a : Nat) (v : Byte) : (m.write a v).read a = v := by
  simp [Memory.read_write]

theorem Memory.read_write_other (m : Memory) (a b : Nat) (v : Byte) (h : b ≠ a) :
    (m.write a v).read b = m.read b := by simp [Memory.read_write, h]

theorem Memory.mem_insertCell (c x : Host.Cell) (m : Memory) :
    x ∈ Memory.insertCell c m ↔ x = c ∨ x ∈ m := by
  induction m with
  | nil => simp [Memory.insertCell]
  | cons b rest ih =>
    simp only [Memory.insertCell]
    split
    · simp
    · simp only [List.mem_cons, ih]; tauto

theorem Memory.sorted_insertCell (c : Host.Cell) (m : Memory) (h : m.Pairwise fun b d => b.1 < d.1)
    (hne : ∀ b ∈ m, b.1 ≠ c.1) : (Memory.insertCell c m).Pairwise fun b d => b.1 < d.1 := by
  induction m with
  | nil => simp [Memory.insertCell]
  | cons b rest ih =>
    obtain ⟨hb, hrest⟩ := List.pairwise_cons.mp h
    simp only [Memory.insertCell]
    split
    · rename_i hlt
      refine List.pairwise_cons.mpr ⟨fun x hx => ?_, h⟩
      rcases List.mem_cons.mp hx with rfl | hx
      · exact hlt
      · exact Nat.lt_trans hlt (hb x hx)
    · rename_i hge
      refine List.pairwise_cons.mpr ⟨fun x hx => ?_, ih hrest fun y hy => hne y (List.mem_cons_of_mem _ hy)⟩
      rcases (Memory.mem_insertCell c x rest).mp hx with rfl | hx
      · have := hne b (by simp); omega
      · exact hb x hx

/-- A write keeps the canonical form. -/
theorem Memory.wf_write {size : Nat} {m : Memory} (h : Memory.wf size m) {a : Nat} (ha : a < size) (v : Byte) :
    Memory.wf size (m.write a v) := by
  obtain ⟨hs, hm⟩ := h
  have hs' := hs.filter fun c => c.1 != a
  have hm' : ∀ c ∈ m.filter (fun c => c.1 != a), c.1 < size ∧ c.2 ≠ Memory.unlisted :=
    fun c hc => hm c (List.mem_filter.mp hc).1
  by_cases hv : v = Memory.unlisted
  · simpa [Memory.write, hv] using ⟨hs', hm'⟩
  · simp only [Memory.write, hv, if_false]
    refine ⟨Memory.sorted_insertCell _ _ hs' (by simp), fun c hc => ?_⟩
    rcases (Memory.mem_insertCell _ _ _).mp hc with rfl | hc
    · exact ⟨ha, hv⟩
    · exact hm' c hc

theorem Memory.wf_empty (size : Nat) : Memory.wf size [] :=
  ⟨List.Pairwise.nil, fun _ h => absurd h List.not_mem_nil⟩

theorem Memory.mem_ofBytesFrom (a : Nat) (l : List Byte) (c : Host.Cell) (h : c ∈ Memory.ofBytesFrom a l) :
    a ≤ c.1 ∧ c.1 < a + l.length ∧ c.2 ≠ Memory.unlisted := by
  induction l generalizing a with
  | nil => simp [Memory.ofBytesFrom] at h
  | cons b rest ih =>
    simp only [Memory.ofBytesFrom] at h
    split at h
    · obtain ⟨h1, h2, h3⟩ := ih _ h
      exact ⟨by omega, by simp only [List.length_cons]; omega, h3⟩
    · rename_i hb
      rcases List.mem_cons.mp h with rfl | h
      · simp [hb]
      · obtain ⟨h1, h2, h3⟩ := ih _ h
        exact ⟨by omega, by simp only [List.length_cons]; omega, h3⟩

theorem Memory.sorted_ofBytesFrom (a : Nat) (l : List Byte) :
    (Memory.ofBytesFrom a l).Pairwise fun b c => b.1 < c.1 := by
  induction l generalizing a with
  | nil => simp [Memory.ofBytesFrom]
  | cons b rest ih =>
    simp only [Memory.ofBytesFrom]
    split
    · exact ih _
    · refine List.pairwise_cons.mpr ⟨fun c hc => ?_, ih _⟩
      have := Memory.mem_ofBytesFrom _ _ _ hc
      simp only; omega

/-- The memory of an image is in canonical form. -/
theorem Memory.wf_ofBytes (image : List Byte) : Memory.wf image.length (Memory.ofBytes image) :=
  ⟨Memory.sorted_ofBytesFrom 0 image, fun c hc => by
    have := Memory.mem_ofBytesFrom 0 image c hc
    exact ⟨by omega, this.2.2⟩⟩

theorem Memory.read_not_listed (m : Memory) (a : Nat) (h : ∀ c ∈ m, c.1 ≠ a) :
    m.read a = Memory.unlisted := by
  induction m with
  | nil => rfl
  | cons b rest ih =>
    simp [Memory.read, h b (by simp), ih fun c hc => h c (List.mem_cons_of_mem _ hc)]

theorem Memory.read_ofBytesFrom (a k : Nat) (l : List Byte) :
    (Memory.ofBytesFrom a l).read (a + k) = l.getD k Memory.unlisted := by
  induction l generalizing a k with
  | nil => simp [Memory.ofBytesFrom, Memory.read]
  | cons b rest ih =>
    simp only [Memory.ofBytesFrom]
    cases k with
    | zero =>
      split
      · rename_i hb
        rw [Memory.read_not_listed]
        · simp [hb]
        · intro c hc
          have := Memory.mem_ofBytesFrom _ _ _ hc
          omega
      · simp [Memory.read]
    | succ k =>
      have hk : a + (k + 1) = a + 1 + k := by omega
      split
      · rw [hk, ih]; simp
      · have : a ≠ a + (k + 1) := by omega
        simp only [Memory.read, this, if_false]
        rw [hk, ih]; simp

/-- Byte `k` of an image is at address `k` of its memory. -/
theorem Memory.read_ofBytes (image : List Byte) (k : Nat) :
    (Memory.ofBytes image).read k = image.getD k Memory.unlisted := by
  have h := Memory.read_ofBytesFrom 0 k image
  rwa [Nat.zero_add] at h

/-- An image of zeros lists nothing. -/
theorem Memory.ofBytesFrom_zeros (a n : Nat) : Memory.ofBytesFrom a (List.replicate n 0) = [] := by
  induction n generalizing a with
  | zero => rfl
  | succ n ih => 
    rw [List.replicate_succ, Memory.ofBytesFrom, if_pos (show (0 : Byte) = Memory.unlisted from rfl)]
    exact ih _

/-- Two memories in canonical form that read the same at every address are the same memory. -/
theorem Memory.ext_read {size : Nat} {m n : Memory} (hm : Memory.wf size m) (hn : Memory.wf size n) (h : ∀ a, m.read a = n.read a) : m = n := by
  induction m generalizing n with
  | nil =>
    cases n with
    | nil => rfl
    | cons c r => exact absurd ((h c.1).symm.trans rfl) (by simpa [Memory.read] using (hn.2 c (by simp)).2)
  | cons b r ih =>
    have low : ∀ {c : Host.Cell} {l : Memory}, Memory.wf size (c :: l) → ∀ a, a ≤ c.1 → l.read a = Memory.unlisted := by
      intro c l hw a ha
      apply Memory.read_not_listed
      intro x hx
      have := (List.pairwise_cons.mp hw.1).1 x hx
      omega
    have tl : ∀ {c : Host.Cell} {l : Memory}, Memory.wf size (c :: l) → Memory.wf size l := fun hw =>
      ⟨(List.pairwise_cons.mp hw.1).2, fun x hx => hw.2 x (List.mem_cons_of_mem _ hx)⟩
    cases n with
    | nil => exact absurd ((h b.1).trans rfl) (by simpa [Memory.read] using (hm.2 b (by simp)).2)
    | cons c l =>
      have hb := (hm.2 b (by simp)).2
      have hc := (hn.2 c (by simp)).2
      have hbc : b.1 = c.1 := by
        rcases Nat.lt_trichotomy b.1 c.1 with hlt | he | hlt
        · have := h b.1
          simp only [Memory.read, if_true, show c.1 ≠ b.1 by omega, if_false, low hn b.1 (by omega)] at this
          exact absurd this hb
        · exact he
        · have := h c.1
          simp only [Memory.read, if_true, show b.1 ≠ c.1 by omega, if_false, low hm c.1 (by omega)] at this
          exact absurd this.symm hc
      have hv : b.2 = c.2 := by simpa [Memory.read, hbc] using h b.1
      have : b = c := Prod.ext hbc hv
      subst this
      congr 1
      refine ih (tl hm) (tl hn) fun a => ?_
      by_cases hab : b.1 = a
      · rw [low hm a (by omega), low hn a (by omega)]
      · simpa [Memory.read, hab] using h a

end Sys2Proof.Machine
end

