-- ==== Sys2Proof/Laws/State.lean ====
section
/-! SUPPORT. What each named update of the state does to each field: one lemma a field, so that no later proof
unfolds a record update. -/

namespace Sys2Proof.Machine

/-! ### `emit` -/

@[simp] theorem emit_ppuctrl (e : Event) (s : State) :
    (emit e s).ppuctrl = s.ppuctrl := rfl

@[simp] theorem emit_vAddr (e : Event) (s : State) :
    (emit e s).vAddr = s.vAddr := rfl

@[simp] theorem emit_vOvf (e : Event) (s : State) :
    (emit e s).vOvf = s.vOvf := rfl

@[simp] theorem emit_w (e : Event) (s : State) :
    (emit e s).w = s.w := rfl

@[simp] theorem emit_rdbuf (e : Event) (s : State) :
    (emit e s).rdbuf = s.rdbuf := rfl

@[simp] theorem emit_vram (e : Event) (s : State) :
    (emit e s).vram = s.vram := rfl

@[simp] theorem emit_oam (e : Event) (s : State) :
    (emit e s).oam = s.oam := rfl

@[simp] theorem emit_ptrom (e : Event) (s : State) :
    (emit e s).ptrom = s.ptrom := rfl

@[simp] theorem emit_tick (e : Event) (s : State) :
    (emit e s).tick = s.tick := rfl

@[simp] theorem emit_joyState (e : Event) (s : State) :
    (emit e s).joyState = s.joyState := rfl

@[simp] theorem emit_joyStrobe (e : Event) (s : State) :
    (emit e s).joyStrobe = s.joyStrobe := rfl

@[simp] theorem emit_joyIdx (e : Event) (s : State) :
    (emit e s).joyIdx = s.joyIdx := rfl

@[simp] theorem emit_wired (e : Event) (s : State) :
    (emit e s).wired = s.wired := rfl

@[simp] theorem emit_fbi (e : Event) (s : State) :
    (emit e s).fbi = s.fbi := rfl

@[simp] theorem emit_fbValid (e : Event) (s : State) :
    (emit e s).fbValid = s.fbValid := rfl

@[simp] theorem emit_fault (e : Event) (s : State) :
    (emit e s).fault = s.fault := rfl

@[simp] theorem emit_refused (e : Event) (s : State) :
    (emit e s).refused = s.refused := rfl

@[simp] theorem emit_params (e : Event) (s : State) :
    (emit e s).params = s.params := rfl

@[simp] theorem emit_wram (e : Event) (s : State) :
    (emit e s).wram = s.wram := rfl

@[simp] theorem emit_arrivals (e : Event) (s : State) :
    (emit e s).arrivals = s.arrivals := rfl

@[simp] theorem emit_word (e : Event) (s : State) :
    (emit e s).word = s.word := rfl

@[simp] theorem emit_response (e : Event) (s : State) :
    (emit e s).response = s.response := rfl

@[simp] theorem emit_trace (e : Event) (s : State) :
    (emit e s).trace = s.trace ++ [e] := rfl

@[simp] theorem emit_freeCount (e : Event) (s : State) :
    (emit e s).freeCount = s.freeCount := rfl

/-! ### `takeRequest` -/

@[simp] theorem takeRequest_ppuctrl (q : ReqWord) (rest : List Arrival) (s : State) :
    (takeRequest q rest s).ppuctrl = s.ppuctrl := rfl

@[simp] theorem takeRequest_vAddr (q : ReqWord) (rest : List Arrival) (s : State) :
    (takeRequest q rest s).vAddr = s.vAddr := rfl

@[simp] theorem takeRequest_vOvf (q : ReqWord) (rest : List Arrival) (s : State) :
    (takeRequest q rest s).vOvf = s.vOvf := rfl

@[simp] theorem takeRequest_w (q : ReqWord) (rest : List Arrival) (s : State) :
    (takeRequest q rest s).w = s.w := rfl

@[simp] theorem takeRequest_rdbuf (q : ReqWord) (rest : List Arrival) (s : State) :
    (takeRequest q rest s).rdbuf = s.rdbuf := rfl

@[simp] theorem takeRequest_vram (q : ReqWord) (rest : List Arrival) (s : State) :
    (takeRequest q rest s).vram = s.vram := rfl

@[simp] theorem takeRequest_oam (q : ReqWord) (rest : List Arrival) (s : State) :
    (takeRequest q rest s).oam = s.oam := rfl

@[simp] theorem takeRequest_ptrom (q : ReqWord) (rest : List Arrival) (s : State) :
    (takeRequest q rest s).ptrom = s.ptrom := rfl

@[simp] theorem takeRequest_tick (q : ReqWord) (rest : List Arrival) (s : State) :
    (takeRequest q rest s).tick = s.tick := rfl

@[simp] theorem takeRequest_joyState (q : ReqWord) (rest : List Arrival) (s : State) :
    (takeRequest q rest s).joyState = s.joyState := rfl

@[simp] theorem takeRequest_joyStrobe (q : ReqWord) (rest : List Arrival) (s : State) :
    (takeRequest q rest s).joyStrobe = s.joyStrobe := rfl

@[simp] theorem takeRequest_joyIdx (q : ReqWord) (rest : List Arrival) (s : State) :
    (takeRequest q rest s).joyIdx = s.joyIdx := rfl

@[simp] theorem takeRequest_wired (q : ReqWord) (rest : List Arrival) (s : State) :
    (takeRequest q rest s).wired = s.wired := rfl

@[simp] theorem takeRequest_fbi (q : ReqWord) (rest : List Arrival) (s : State) :
    (takeRequest q rest s).fbi = s.fbi := rfl

@[simp] theorem takeRequest_fbValid (q : ReqWord) (rest : List Arrival) (s : State) :
    (takeRequest q rest s).fbValid = s.fbValid := rfl

@[simp] theorem takeRequest_fault (q : ReqWord) (rest : List Arrival) (s : State) :
    (takeRequest q rest s).fault = s.fault := rfl

@[simp] theorem takeRequest_refused (q : ReqWord) (rest : List Arrival) (s : State) :
    (takeRequest q rest s).refused = s.refused := rfl

@[simp] theorem takeRequest_params (q : ReqWord) (rest : List Arrival) (s : State) :
    (takeRequest q rest s).params = s.params := rfl

@[simp] theorem takeRequest_wram (q : ReqWord) (rest : List Arrival) (s : State) :
    (takeRequest q rest s).wram = s.wram := rfl

@[simp] theorem takeRequest_arrivals (q : ReqWord) (rest : List Arrival) (s : State) :
    (takeRequest q rest s).arrivals = rest := rfl

@[simp] theorem takeRequest_word (q : ReqWord) (rest : List Arrival) (s : State) :
    (takeRequest q rest s).word = q := rfl

@[simp] theorem takeRequest_response (q : ReqWord) (rest : List Arrival) (s : State) :
    (takeRequest q rest s).response = s.response := rfl

@[simp] theorem takeRequest_trace (q : ReqWord) (rest : List Arrival) (s : State) :
    (takeRequest q rest s).trace = s.trace := rfl

@[simp] theorem takeRequest_freeCount (q : ReqWord) (rest : List Arrival) (s : State) :
    (takeRequest q rest s).freeCount = s.freeCount := rfl

/-! ### `spoilFrame` -/

@[simp] theorem spoilFrame_ppuctrl (s : State) :
    (spoilFrame s).ppuctrl = s.ppuctrl := rfl

@[simp] theorem spoilFrame_vAddr (s : State) :
    (spoilFrame s).vAddr = s.vAddr := rfl

@[simp] theorem spoilFrame_vOvf (s : State) :
    (spoilFrame s).vOvf = s.vOvf := rfl

@[simp] theorem spoilFrame_w (s : State) :
    (spoilFrame s).w = s.w := rfl

@[simp] theorem spoilFrame_rdbuf (s : State) :
    (spoilFrame s).rdbuf = s.rdbuf := rfl

@[simp] theorem spoilFrame_vram (s : State) :
    (spoilFrame s).vram = s.vram := rfl

@[simp] theorem spoilFrame_oam (s : State) :
    (spoilFrame s).oam = s.oam := rfl

@[simp] theorem spoilFrame_ptrom (s : State) :
    (spoilFrame s).ptrom = s.ptrom := rfl

@[simp] theorem spoilFrame_tick (s : State) :
    (spoilFrame s).tick = s.tick := rfl

@[simp] theorem spoilFrame_joyState (s : State) :
    (spoilFrame s).joyState = s.joyState := rfl

@[simp] theorem spoilFrame_joyStrobe (s : State) :
    (spoilFrame s).joyStrobe = s.joyStrobe := rfl

@[simp] theorem spoilFrame_joyIdx (s : State) :
    (spoilFrame s).joyIdx = s.joyIdx := rfl

@[simp] theorem spoilFrame_wired (s : State) :
    (spoilFrame s).wired = s.wired := rfl

@[simp] theorem spoilFrame_fbi (s : State) :
    (spoilFrame s).fbi = Frame.free s.freeCount := rfl

@[simp] theorem spoilFrame_fbValid (s : State) :
    (spoilFrame s).fbValid = s.fbValid := rfl

@[simp] theorem spoilFrame_fault (s : State) :
    (spoilFrame s).fault = s.fault := rfl

@[simp] theorem spoilFrame_refused (s : State) :
    (spoilFrame s).refused = s.refused := rfl

@[simp] theorem spoilFrame_params (s : State) :
    (spoilFrame s).params = s.params := rfl

@[simp] theorem spoilFrame_wram (s : State) :
    (spoilFrame s).wram = s.wram := rfl

@[simp] theorem spoilFrame_arrivals (s : State) :
    (spoilFrame s).arrivals = s.arrivals := rfl

@[simp] theorem spoilFrame_word (s : State) :
    (spoilFrame s).word = s.word := rfl

@[simp] theorem spoilFrame_response (s : State) :
    (spoilFrame s).response = s.response := rfl

@[simp] theorem spoilFrame_trace (s : State) :
    (spoilFrame s).trace = s.trace := rfl

@[simp] theorem spoilFrame_freeCount (s : State) :
    (spoilFrame s).freeCount = s.freeCount + 1 := rfl

/-! ### `advance` -/

@[simp] theorem advance_ppuctrl (s : State) :
    (advance s).ppuctrl = s.ppuctrl := rfl

@[simp] theorem advance_vAddr (s : State) :
    (advance s).vAddr = BitVec.ofNat 14 (s.vAddr.toNat + cursorStep s) := rfl

@[simp] theorem advance_vOvf (s : State) :
    (advance s).vOvf = if 0x3FFF < s.vAddr.toNat + cursorStep s then true else s.vOvf := rfl

@[simp] theorem advance_w (s : State) :
    (advance s).w = s.w := rfl

@[simp] theorem advance_rdbuf (s : State) :
    (advance s).rdbuf = s.rdbuf := rfl

@[simp] theorem advance_vram (s : State) :
    (advance s).vram = s.vram := rfl

@[simp] theorem advance_oam (s : State) :
    (advance s).oam = s.oam := rfl

@[simp] theorem advance_ptrom (s : State) :
    (advance s).ptrom = s.ptrom := rfl

@[simp] theorem advance_tick (s : State) :
    (advance s).tick = s.tick := rfl

@[simp] theorem advance_joyState (s : State) :
    (advance s).joyState = s.joyState := rfl

@[simp] theorem advance_joyStrobe (s : State) :
    (advance s).joyStrobe = s.joyStrobe := rfl

@[simp] theorem advance_joyIdx (s : State) :
    (advance s).joyIdx = s.joyIdx := rfl

@[simp] theorem advance_wired (s : State) :
    (advance s).wired = s.wired := rfl

@[simp] theorem advance_fbi (s : State) :
    (advance s).fbi = s.fbi := rfl

@[simp] theorem advance_fbValid (s : State) :
    (advance s).fbValid = s.fbValid := rfl

@[simp] theorem advance_fault (s : State) :
    (advance s).fault = s.fault := rfl

@[simp] theorem advance_refused (s : State) :
    (advance s).refused = s.refused := rfl

@[simp] theorem advance_params (s : State) :
    (advance s).params = s.params := rfl

@[simp] theorem advance_wram (s : State) :
    (advance s).wram = s.wram := rfl

@[simp] theorem advance_arrivals (s : State) :
    (advance s).arrivals = s.arrivals := rfl

@[simp] theorem advance_word (s : State) :
    (advance s).word = s.word := rfl

@[simp] theorem advance_response (s : State) :
    (advance s).response = s.response := rfl

@[simp] theorem advance_trace (s : State) :
    (advance s).trace = s.trace := rfl

@[simp] theorem advance_freeCount (s : State) :
    (advance s).freeCount = s.freeCount := rfl

/-! ### `addressHigh` -/

@[simp] theorem addressHigh_ppuctrl (d : Byte) (s : State) :
    (addressHigh d s).ppuctrl = s.ppuctrl := rfl

@[simp] theorem addressHigh_vAddr (d : Byte) (s : State) :
    (addressHigh d s).vAddr = (d.extractLsb' 0 6).setWidth 14 := rfl

@[simp] theorem addressHigh_vOvf (d : Byte) (s : State) :
    (addressHigh d s).vOvf = false := rfl

@[simp] theorem addressHigh_w (d : Byte) (s : State) :
    (addressHigh d s).w = true := rfl

@[simp] theorem addressHigh_rdbuf (d : Byte) (s : State) :
    (addressHigh d s).rdbuf = s.rdbuf := rfl

@[simp] theorem addressHigh_vram (d : Byte) (s : State) :
    (addressHigh d s).vram = s.vram := rfl

@[simp] theorem addressHigh_oam (d : Byte) (s : State) :
    (addressHigh d s).oam = s.oam := rfl

@[simp] theorem addressHigh_ptrom (d : Byte) (s : State) :
    (addressHigh d s).ptrom = s.ptrom := rfl

@[simp] theorem addressHigh_tick (d : Byte) (s : State) :
    (addressHigh d s).tick = s.tick := rfl

@[simp] theorem addressHigh_joyState (d : Byte) (s : State) :
    (addressHigh d s).joyState = s.joyState := rfl

@[simp] theorem addressHigh_joyStrobe (d : Byte) (s : State) :
    (addressHigh d s).joyStrobe = s.joyStrobe := rfl

@[simp] theorem addressHigh_joyIdx (d : Byte) (s : State) :
    (addressHigh d s).joyIdx = s.joyIdx := rfl

@[simp] theorem addressHigh_wired (d : Byte) (s : State) :
    (addressHigh d s).wired = s.wired := rfl

@[simp] theorem addressHigh_fbi (d : Byte) (s : State) :
    (addressHigh d s).fbi = s.fbi := rfl

@[simp] theorem addressHigh_fbValid (d : Byte) (s : State) :
    (addressHigh d s).fbValid = s.fbValid := rfl

@[simp] theorem addressHigh_fault (d : Byte) (s : State) :
    (addressHigh d s).fault = s.fault := rfl

@[simp] theorem addressHigh_refused (d : Byte) (s : State) :
    (addressHigh d s).refused = s.refused := rfl

@[simp] theorem addressHigh_params (d : Byte) (s : State) :
    (addressHigh d s).params = s.params := rfl

@[simp] theorem addressHigh_wram (d : Byte) (s : State) :
    (addressHigh d s).wram = s.wram := rfl

@[simp] theorem addressHigh_arrivals (d : Byte) (s : State) :
    (addressHigh d s).arrivals = s.arrivals := rfl

@[simp] theorem addressHigh_word (d : Byte) (s : State) :
    (addressHigh d s).word = s.word := rfl

@[simp] theorem addressHigh_response (d : Byte) (s : State) :
    (addressHigh d s).response = s.response := rfl

@[simp] theorem addressHigh_trace (d : Byte) (s : State) :
    (addressHigh d s).trace = s.trace := rfl

@[simp] theorem addressHigh_freeCount (d : Byte) (s : State) :
    (addressHigh d s).freeCount = s.freeCount := rfl

/-! ### `addressLow` -/

@[simp] theorem addressLow_ppuctrl (d : Byte) (s : State) :
    (addressLow d s).ppuctrl = s.ppuctrl := by unfold addressLow; split <;> rfl

@[simp] theorem addressLow_w (d : Byte) (s : State) :
    (addressLow d s).w = false := by unfold addressLow; split <;> rfl

@[simp] theorem addressLow_rdbuf (d : Byte) (s : State) :
    (addressLow d s).rdbuf = s.rdbuf := by unfold addressLow; split <;> rfl

@[simp] theorem addressLow_vram (d : Byte) (s : State) :
    (addressLow d s).vram = s.vram := by unfold addressLow; split <;> rfl

@[simp] theorem addressLow_oam (d : Byte) (s : State) :
    (addressLow d s).oam = s.oam := by unfold addressLow; split <;> rfl

@[simp] theorem addressLow_ptrom (d : Byte) (s : State) :
    (addressLow d s).ptrom = s.ptrom := by unfold addressLow; split <;> rfl

@[simp] theorem addressLow_tick (d : Byte) (s : State) :
    (addressLow d s).tick = s.tick := by unfold addressLow; split <;> rfl

@[simp] theorem addressLow_joyState (d : Byte) (s : State) :
    (addressLow d s).joyState = s.joyState := by unfold addressLow; split <;> rfl

@[simp] theorem addressLow_joyStrobe (d : Byte) (s : State) :
    (addressLow d s).joyStrobe = s.joyStrobe := by unfold addressLow; split <;> rfl

@[simp] theorem addressLow_joyIdx (d : Byte) (s : State) :
    (addressLow d s).joyIdx = s.joyIdx := by unfold addressLow; split <;> rfl

@[simp] theorem addressLow_wired (d : Byte) (s : State) :
    (addressLow d s).wired = s.wired := by unfold addressLow; split <;> rfl

@[simp] theorem addressLow_fbi (d : Byte) (s : State) :
    (addressLow d s).fbi = s.fbi := by unfold addressLow; split <;> rfl

@[simp] theorem addressLow_fbValid (d : Byte) (s : State) :
    (addressLow d s).fbValid = s.fbValid := by unfold addressLow; split <;> rfl

@[simp] theorem addressLow_fault (d : Byte) (s : State) :
    (addressLow d s).fault = s.fault := by unfold addressLow; split <;> rfl

@[simp] theorem addressLow_refused (d : Byte) (s : State) :
    (addressLow d s).refused = s.refused := by unfold addressLow; split <;> rfl

@[simp] theorem addressLow_params (d : Byte) (s : State) :
    (addressLow d s).params = s.params := by unfold addressLow; split <;> rfl

@[simp] theorem addressLow_wram (d : Byte) (s : State) :
    (addressLow d s).wram = s.wram := by unfold addressLow; split <;> rfl

@[simp] theorem addressLow_arrivals (d : Byte) (s : State) :
    (addressLow d s).arrivals = s.arrivals := by unfold addressLow; split <;> rfl

@[simp] theorem addressLow_word (d : Byte) (s : State) :
    (addressLow d s).word = s.word := by unfold addressLow; split <;> rfl

@[simp] theorem addressLow_response (d : Byte) (s : State) :
    (addressLow d s).response = s.response := by unfold addressLow; split <;> rfl

@[simp] theorem addressLow_trace (d : Byte) (s : State) :
    (addressLow d s).trace = s.trace := by unfold addressLow; split <;> rfl

@[simp] theorem addressLow_freeCount (d : Byte) (s : State) :
    (addressLow d s).freeCount = s.freeCount := by unfold addressLow; split <;> rfl

/-! ### `strobe` -/

@[simp] theorem strobe_ppuctrl (d : Byte) (s : State) :
    (strobe d s).ppuctrl = s.ppuctrl := rfl

@[simp] theorem strobe_vAddr (d : Byte) (s : State) :
    (strobe d s).vAddr = s.vAddr := rfl

@[simp] theorem strobe_vOvf (d : Byte) (s : State) :
    (strobe d s).vOvf = s.vOvf := rfl

@[simp] theorem strobe_w (d : Byte) (s : State) :
    (strobe d s).w = s.w := rfl

@[simp] theorem strobe_rdbuf (d : Byte) (s : State) :
    (strobe d s).rdbuf = s.rdbuf := rfl

@[simp] theorem strobe_vram (d : Byte) (s : State) :
    (strobe d s).vram = s.vram := rfl

@[simp] theorem strobe_oam (d : Byte) (s : State) :
    (strobe d s).oam = s.oam := rfl

@[simp] theorem strobe_ptrom (d : Byte) (s : State) :
    (strobe d s).ptrom = s.ptrom := rfl

@[simp] theorem strobe_tick (d : Byte) (s : State) :
    (strobe d s).tick = s.tick := rfl

@[simp] theorem strobe_joyState (d : Byte) (s : State) :
    (strobe d s).joyState = s.joyState := rfl

@[simp] theorem strobe_joyStrobe (d : Byte) (s : State) :
    (strobe d s).joyStrobe = d.getLsbD 0 := rfl

@[simp] theorem strobe_joyIdx (d : Byte) (s : State) :
    (strobe d s).joyIdx = if d.getLsbD 0 then 0 else s.joyIdx := rfl

@[simp] theorem strobe_wired (d : Byte) (s : State) :
    (strobe d s).wired = s.wired := rfl

@[simp] theorem strobe_fbi (d : Byte) (s : State) :
    (strobe d s).fbi = s.fbi := rfl

@[simp] theorem strobe_fbValid (d : Byte) (s : State) :
    (strobe d s).fbValid = s.fbValid := rfl

@[simp] theorem strobe_fault (d : Byte) (s : State) :
    (strobe d s).fault = s.fault := rfl

@[simp] theorem strobe_refused (d : Byte) (s : State) :
    (strobe d s).refused = s.refused := rfl

@[simp] theorem strobe_params (d : Byte) (s : State) :
    (strobe d s).params = s.params := rfl

@[simp] theorem strobe_wram (d : Byte) (s : State) :
    (strobe d s).wram = s.wram := rfl

@[simp] theorem strobe_arrivals (d : Byte) (s : State) :
    (strobe d s).arrivals = s.arrivals := rfl

@[simp] theorem strobe_word (d : Byte) (s : State) :
    (strobe d s).word = s.word := rfl

@[simp] theorem strobe_response (d : Byte) (s : State) :
    (strobe d s).response = s.response := rfl

@[simp] theorem strobe_trace (d : Byte) (s : State) :
    (strobe d s).trace = s.trace := rfl

@[simp] theorem strobe_freeCount (d : Byte) (s : State) :
    (strobe d s).freeCount = s.freeCount := rfl

/-! ### `joyAdvance` -/

@[simp] theorem joyAdvance_ppuctrl (s : State) :
    (joyAdvance s).ppuctrl = s.ppuctrl := by unfold joyAdvance; split <;> (try split) <;> rfl

@[simp] theorem joyAdvance_vAddr (s : State) :
    (joyAdvance s).vAddr = s.vAddr := by unfold joyAdvance; split <;> (try split) <;> rfl

@[simp] theorem joyAdvance_vOvf (s : State) :
    (joyAdvance s).vOvf = s.vOvf := by unfold joyAdvance; split <;> (try split) <;> rfl

@[simp] theorem joyAdvance_w (s : State) :
    (joyAdvance s).w = s.w := by unfold joyAdvance; split <;> (try split) <;> rfl

@[simp] theorem joyAdvance_rdbuf (s : State) :
    (joyAdvance s).rdbuf = s.rdbuf := by unfold joyAdvance; split <;> (try split) <;> rfl

@[simp] theorem joyAdvance_vram (s : State) :
    (joyAdvance s).vram = s.vram := by unfold joyAdvance; split <;> (try split) <;> rfl

@[simp] theorem joyAdvance_oam (s : State) :
    (joyAdvance s).oam = s.oam := by unfold joyAdvance; split <;> (try split) <;> rfl

@[simp] theorem joyAdvance_ptrom (s : State) :
    (joyAdvance s).ptrom = s.ptrom := by unfold joyAdvance; split <;> (try split) <;> rfl

@[simp] theorem joyAdvance_tick (s : State) :
    (joyAdvance s).tick = s.tick := by unfold joyAdvance; split <;> (try split) <;> rfl

@[simp] theorem joyAdvance_joyState (s : State) :
    (joyAdvance s).joyState = s.joyState := by unfold joyAdvance; split <;> (try split) <;> rfl

@[simp] theorem joyAdvance_joyStrobe (s : State) :
    (joyAdvance s).joyStrobe = s.joyStrobe := by unfold joyAdvance; split <;> (try split) <;> rfl

@[simp] theorem joyAdvance_wired (s : State) :
    (joyAdvance s).wired = s.wired := by unfold joyAdvance; split <;> (try split) <;> rfl

@[simp] theorem joyAdvance_fbi (s : State) :
    (joyAdvance s).fbi = s.fbi := by unfold joyAdvance; split <;> (try split) <;> rfl

@[simp] theorem joyAdvance_fbValid (s : State) :
    (joyAdvance s).fbValid = s.fbValid := by unfold joyAdvance; split <;> (try split) <;> rfl

@[simp] theorem joyAdvance_fault (s : State) :
    (joyAdvance s).fault = s.fault := by unfold joyAdvance; split <;> (try split) <;> rfl

@[simp] theorem joyAdvance_refused (s : State) :
    (joyAdvance s).refused = s.refused := by unfold joyAdvance; split <;> (try split) <;> rfl

@[simp] theorem joyAdvance_params (s : State) :
    (joyAdvance s).params = s.params := by unfold joyAdvance; split <;> (try split) <;> rfl

@[simp] theorem joyAdvance_wram (s : State) :
    (joyAdvance s).wram = s.wram := by unfold joyAdvance; split <;> (try split) <;> rfl

@[simp] theorem joyAdvance_arrivals (s : State) :
    (joyAdvance s).arrivals = s.arrivals := by unfold joyAdvance; split <;> (try split) <;> rfl

@[simp] theorem joyAdvance_word (s : State) :
    (joyAdvance s).word = s.word := by unfold joyAdvance; split <;> (try split) <;> rfl

@[simp] theorem joyAdvance_response (s : State) :
    (joyAdvance s).response = s.response := by unfold joyAdvance; split <;> (try split) <;> rfl

@[simp] theorem joyAdvance_trace (s : State) :
    (joyAdvance s).trace = s.trace := by unfold joyAdvance; split <;> (try split) <;> rfl

@[simp] theorem joyAdvance_freeCount (s : State) :
    (joyAdvance s).freeCount = s.freeCount := by unfold joyAdvance; split <;> (try split) <;> rfl

/-! ### `tickCount` -/

@[simp] theorem tickCount_ppuctrl (s : State) :
    (tickCount s).ppuctrl = s.ppuctrl := by unfold tickCount; split <;> (try split) <;> rfl

@[simp] theorem tickCount_vAddr (s : State) :
    (tickCount s).vAddr = s.vAddr := by unfold tickCount; split <;> (try split) <;> rfl

@[simp] theorem tickCount_vOvf (s : State) :
    (tickCount s).vOvf = s.vOvf := by unfold tickCount; split <;> (try split) <;> rfl

@[simp] theorem tickCount_w (s : State) :
    (tickCount s).w = s.w := by unfold tickCount; split <;> (try split) <;> rfl

@[simp] theorem tickCount_rdbuf (s : State) :
    (tickCount s).rdbuf = s.rdbuf := by unfold tickCount; split <;> (try split) <;> rfl

@[simp] theorem tickCount_vram (s : State) :
    (tickCount s).vram = s.vram := by unfold tickCount; split <;> (try split) <;> rfl

@[simp] theorem tickCount_oam (s : State) :
    (tickCount s).oam = s.oam := by unfold tickCount; split <;> (try split) <;> rfl

@[simp] theorem tickCount_ptrom (s : State) :
    (tickCount s).ptrom = s.ptrom := by unfold tickCount; split <;> (try split) <;> rfl

@[simp] theorem tickCount_tick (s : State) :
    (tickCount s).tick = if s.tick + 1 = s.params.framePeriod then 0 else s.tick + 1 := by unfold tickCount; split <;> (try split) <;> rfl

@[simp] theorem tickCount_joyState (s : State) :
    (tickCount s).joyState = s.joyState := by unfold tickCount; split <;> (try split) <;> rfl

@[simp] theorem tickCount_joyStrobe (s : State) :
    (tickCount s).joyStrobe = s.joyStrobe := by unfold tickCount; split <;> (try split) <;> rfl

@[simp] theorem tickCount_joyIdx (s : State) :
    (tickCount s).joyIdx = s.joyIdx := by unfold tickCount; split <;> (try split) <;> rfl

@[simp] theorem tickCount_wired (s : State) :
    (tickCount s).wired = s.wired := by unfold tickCount; split <;> (try split) <;> rfl

@[simp] theorem tickCount_fbi (s : State) :
    (tickCount s).fbi = s.fbi := by unfold tickCount; split <;> (try split) <;> rfl

@[simp] theorem tickCount_fbValid (s : State) :
    (tickCount s).fbValid = s.fbValid := by unfold tickCount; split <;> (try split) <;> rfl

@[simp] theorem tickCount_fault (s : State) :
    (tickCount s).fault = s.fault := by unfold tickCount; split <;> (try split) <;> rfl

@[simp] theorem tickCount_refused (s : State) :
    (tickCount s).refused = s.refused := by unfold tickCount; split <;> (try split) <;> rfl

@[simp] theorem tickCount_params (s : State) :
    (tickCount s).params = s.params := by unfold tickCount; split <;> (try split) <;> rfl

@[simp] theorem tickCount_wram (s : State) :
    (tickCount s).wram = s.wram := by unfold tickCount; split <;> (try split) <;> rfl

@[simp] theorem tickCount_arrivals (s : State) :
    (tickCount s).arrivals = s.arrivals := by unfold tickCount; split <;> (try split) <;> rfl

@[simp] theorem tickCount_word (s : State) :
    (tickCount s).word = s.word := by unfold tickCount; split <;> (try split) <;> rfl

@[simp] theorem tickCount_response (s : State) :
    (tickCount s).response = s.response := by unfold tickCount; split <;> (try split) <;> rfl

@[simp] theorem tickCount_trace (s : State) :
    (tickCount s).trace = if s.tick + 1 = s.params.framePeriod ∧ nmiEn s = true then s.trace ++ [.nmi s.params.nmiArg] else s.trace := by
  unfold tickCount; split <;> rename_i h <;> (try split) <;> simp_all [emit]

@[simp] theorem tickCount_freeCount (s : State) :
    (tickCount s).freeCount = s.freeCount := by unfold tickCount; split <;> (try split) <;> rfl

/-! ### `storeWram` -/

@[simp] theorem storeWram_ppuctrl (a : BusAddr) (v : Byte) (s : State) :
    (storeWram a v s).ppuctrl = s.ppuctrl := by unfold storeWram; split <;> rfl

@[simp] theorem storeWram_vAddr (a : BusAddr) (v : Byte) (s : State) :
    (storeWram a v s).vAddr = s.vAddr := by unfold storeWram; split <;> rfl

@[simp] theorem storeWram_vOvf (a : BusAddr) (v : Byte) (s : State) :
    (storeWram a v s).vOvf = s.vOvf := by unfold storeWram; split <;> rfl

@[simp] theorem storeWram_w (a : BusAddr) (v : Byte) (s : State) :
    (storeWram a v s).w = s.w := by unfold storeWram; split <;> rfl

@[simp] theorem storeWram_rdbuf (a : BusAddr) (v : Byte) (s : State) :
    (storeWram a v s).rdbuf = s.rdbuf := by unfold storeWram; split <;> rfl

@[simp] theorem storeWram_vram (a : BusAddr) (v : Byte) (s : State) :
    (storeWram a v s).vram = s.vram := by unfold storeWram; split <;> rfl

@[simp] theorem storeWram_oam (a : BusAddr) (v : Byte) (s : State) :
    (storeWram a v s).oam = s.oam := by unfold storeWram; split <;> rfl

@[simp] theorem storeWram_ptrom (a : BusAddr) (v : Byte) (s : State) :
    (storeWram a v s).ptrom = s.ptrom := by unfold storeWram; split <;> rfl

@[simp] theorem storeWram_tick (a : BusAddr) (v : Byte) (s : State) :
    (storeWram a v s).tick = s.tick := by unfold storeWram; split <;> rfl

@[simp] theorem storeWram_joyState (a : BusAddr) (v : Byte) (s : State) :
    (storeWram a v s).joyState = s.joyState := by unfold storeWram; split <;> rfl

@[simp] theorem storeWram_joyStrobe (a : BusAddr) (v : Byte) (s : State) :
    (storeWram a v s).joyStrobe = s.joyStrobe := by unfold storeWram; split <;> rfl

@[simp] theorem storeWram_joyIdx (a : BusAddr) (v : Byte) (s : State) :
    (storeWram a v s).joyIdx = s.joyIdx := by unfold storeWram; split <;> rfl

@[simp] theorem storeWram_wired (a : BusAddr) (v : Byte) (s : State) :
    (storeWram a v s).wired = s.wired := by unfold storeWram; split <;> rfl

@[simp] theorem storeWram_fbi (a : BusAddr) (v : Byte) (s : State) :
    (storeWram a v s).fbi = s.fbi := by unfold storeWram; split <;> rfl

@[simp] theorem storeWram_fbValid (a : BusAddr) (v : Byte) (s : State) :
    (storeWram a v s).fbValid = s.fbValid := by unfold storeWram; split <;> rfl

@[simp] theorem storeWram_fault (a : BusAddr) (v : Byte) (s : State) :
    (storeWram a v s).fault = s.fault := by unfold storeWram; split <;> rfl

@[simp] theorem storeWram_refused (a : BusAddr) (v : Byte) (s : State) :
    (storeWram a v s).refused = s.refused := by unfold storeWram; split <;> rfl

@[simp] theorem storeWram_params (a : BusAddr) (v : Byte) (s : State) :
    (storeWram a v s).params = s.params := by unfold storeWram; split <;> rfl

@[simp] theorem storeWram_wram (a : BusAddr) (v : Byte) (s : State) :
    (storeWram a v s).wram = if inWram s a.toNat then s.wram.write (a.toNat - s.params.wramBase.toNat) v else s.wram := by unfold storeWram; split <;> rfl

@[simp] theorem storeWram_arrivals (a : BusAddr) (v : Byte) (s : State) :
    (storeWram a v s).arrivals = s.arrivals := by unfold storeWram; split <;> rfl

@[simp] theorem storeWram_word (a : BusAddr) (v : Byte) (s : State) :
    (storeWram a v s).word = s.word := by unfold storeWram; split <;> rfl

@[simp] theorem storeWram_response (a : BusAddr) (v : Byte) (s : State) :
    (storeWram a v s).response = s.response := by unfold storeWram; split <;> rfl

@[simp] theorem storeWram_trace (a : BusAddr) (v : Byte) (s : State) :
    (storeWram a v s).trace = s.trace := by unfold storeWram; split <;> rfl

@[simp] theorem storeWram_freeCount (a : BusAddr) (v : Byte) (s : State) :
    (storeWram a v s).freeCount = s.freeCount := by unfold storeWram; split <;> rfl

end Sys2Proof.Machine
end

