-- ==== Sys2Proof/Laws/Ops.lean ====
section
/-! SUPPORT. What each shared operation can do, said once: the ways a request ends, the DMA copy, the work-RAM store,
construction, and the ways a step goes. -/

namespace Sys2Proof.Machine

/-! ### The ways a request ends -/

theorem finish_next {s t : State} : finish s = .next t ↔ t = { s with response := .nothing } := by
  simp [finish, eq_comm]

theorem answer_next {b : Byte} {s t : State} : answer b s = .next t ↔ t = { s with response := .data b } := by
  simp [answer, eq_comm]

theorem answerFrame_next {s t : State} : answerFrame s = .next t ↔ t = { s with response := .frame } := by
  simp [answerFrame, eq_comm]

theorem raise_next {f : FaultRecord} {s t : State} :
    raise f s = .next t ↔ t = { s with fault := some f, response := .nothing } := by
  simp [raise, eq_comm]

theorem refuse_next {s t : State} :
    refuse s = .next t ↔ t = { s with refused := true, response := .nothing } := by
  simp [refuse, eq_comm]

/-! ### The DMA copy -/

theorem dmaFold_read (f : Nat → Byte) (n : Nat) (m : Memory) (a : Nat) :
    ((List.range n).foldl (fun m k => m.write k (f k)) m).read a = if a < n then f a else m.read a := by
  induction n with
  | zero => simp
  | succ n ih =>
    rw [List.range_succ, List.foldl_append, List.foldl_cons, List.foldl_nil, Memory.read_write, ih]
    by_cases h : a = n
    · simp [h]
    · have : (a < n + 1) = (a < n) := by apply propext; omega
      simp [h, this]

theorem dmaFold_wf (f : Nat → Byte) (n size : Nat) (m : Memory) (hn : n ≤ size) (h : Memory.wf size m) :
    Memory.wf size ((List.range n).foldl (fun m k => m.write k (f k)) m) := by
  induction n with
  | zero => simpa using h
  | succ n ih =>
    rw [List.range_succ, List.foldl_append, List.foldl_cons, List.foldl_nil]
    exact Memory.wf_write (ih (by omega)) (by omega) _

/-- After the copy OAM byte `k` is the work-RAM byte at the source plus `k`; OAM has no other byte to change. -/
theorem dmaCopy_read (s : State) (page : Byte) (a : Nat) :
    (dmaCopy s page).read a = if a < 256 then wramByte s (dmaSource page + a) else s.oam.read a := by
  unfold dmaCopy
  exact dmaFold_read _ _ _ _

/-- The copy keeps OAM's canonical form. -/
theorem dmaCopy_wf (s : State) (page : Byte) (h : Memory.wf oamSize s.oam) :
    Memory.wf oamSize (dmaCopy s page) := by
  unfold dmaCopy
  exact dmaFold_wf _ _ _ _ (by decide) h

/-- An address is in the segment exactly when it lies from WRAM_BASE up and below WRAM_BASE + WRAM_SIZE (R55). -/
theorem inWram_iff (s : State) (a : Nat) :
    inWram s a = true ↔ s.params.wramBase.toNat ≤ a ∧ a < s.params.wramBase.toNat + s.params.wramSize := by
  simp [inWram]

/-- The range check is that of every source byte. -/
theorem dmaInRange_iff (s : State) (page : Byte) :
    dmaInRange s page = true ↔ ∀ k < 256, s.params.wramBase.toNat ≤ page.toNat * 256 + k ∧
      page.toNat * 256 + k < s.params.wramBase.toNat + s.params.wramSize := by
  rw [dmaInRange, Bool.and_eq_true, inWram_iff, inWram_iff]
  unfold dmaSource
  constructor
  · intro h k hk
    omega
  · intro h
    have h0 := h 0 (by omega)
    have h255 := h 255 (by omega)
    omega

/-! ### The work-RAM store -/

/-- The store keeps the segment's canonical form. -/
theorem storeWram_wf (a : BusAddr) (v : Byte) (s : State) (h : Memory.wf s.params.wramSize s.wram) :
    Memory.wf s.params.wramSize (storeWram a v s).wram := by
  rw [storeWram_wram]
  split
  · rename_i hin
    refine Memory.wf_write h ?_ v
    simp only [inWram, Bool.and_eq_true, decide_eq_true_eq] at hin
    omega
  · exact h

/-! ### Construction -/

/-- The state after reset is the construction of the launch premise ZERO_INIT (R46, R270). -/
theorem construct_zeroInit : construct zeroInit = State.reset := by
  have hlen : zeroInit.image.length = ptRomSize := List.length_replicate
  have hrom : Memory.ofBytes zeroInit.image = [] := Memory.ofBytesFrom_zeros 0 ptRomSize
  simp only [construct, hlen, hrom, if_true]
  rfl

/-! ### The ways a step goes -/

/-- Everything `fetch` can find, and when. -/
theorem fetch_cases (s : State) :
    (∃ f, s.fault = some f ∧ fetch s = .stoppedByFault f) ∨
    (s.fault = none ∧ s.refused = true ∧ fetch s = .stoppedByRefusal) ∨
    (s.fault = none ∧ s.refused = false ∧ s.arrivals = [] ∧ fetch s = .idle) ∨
    (∃ a v rest, s.fault = none ∧ s.refused = false ∧ s.arrivals = .wramStore a v :: rest ∧
      fetch s = .environment (storeWram a v { s with arrivals := rest })) ∨
    (∃ q rest, s.fault = none ∧ s.refused = false ∧ s.arrivals = .request q :: rest ∧
      fetch s = .request (decode s.params q) (takeRequest q rest s)) := by
  unfold fetch
  rcases hf : s.fault with _ | f
  · rcases hr : s.refused with _ | _
    · rcases ha : s.arrivals with _ | ⟨_ | _, _⟩ <;> simp
    · simp
  · simp

/-- Everything a step that answers a next state can have done: nothing arrived, the environment acted, or a request was
taken and ran. -/
theorem step_next {s t : State} (h : step s = .next t) :
    s.fault = none ∧ s.refused = false ∧
    ((s.arrivals = [] ∧ t = s) ∨
     (∃ a v rest, s.arrivals = .wramStore a v :: rest ∧ t = storeWram a v { s with arrivals := rest }) ∨
     (∃ q rest, s.arrivals = .request q :: rest ∧
       exec (decode s.params q) (takeRequest q rest s) = .next t)) := by
  unfold step at h
  rcases fetch_cases s with ⟨f, hf, e⟩ | ⟨hf, hr, e⟩ | ⟨hf, hr, ha, e⟩ | ⟨a, v, rest, hf, hr, ha, e⟩ |
    ⟨q, rest, hf, hr, ha, e⟩ <;> rw [e] at h
  · simp at h
  · simp at h
  · exact ⟨hf, hr, .inl ⟨ha, by simpa using h.symm⟩⟩
  · exact ⟨hf, hr, .inr (.inl ⟨a, v, rest, ha, by simpa using h.symm⟩)⟩
  · exact ⟨hf, hr, .inr (.inr ⟨q, rest, ha, h⟩)⟩

/-- Every request ends in a next state: a fault or a refusal of the block is an entry in its state (R245, R242). -/
theorem exec_answers (i : Instr) (s : State) : ∃ t, exec i s = .next t := by
  cases i <;> simp only [exec]
  case rdPpudata => unfold execRdPpudata; split <;> exact ⟨_, rfl⟩
  case wrPpudata d => unfold execWrPpudata; split <;> exact ⟨_, rfl⟩
  case wrOamdma d => unfold execWrOamdma; split <;> exact ⟨_, rfl⟩
  case tick => unfold execTick; split <;> exact ⟨_, rfl⟩
  case render => unfold execRender; split <;> exact ⟨_, rfl⟩
  all_goals exact ⟨_, rfl⟩

end Sys2Proof.Machine
end

