-- ==== Sys2Proof/Laws/Render.lean ====
section
/-! SUPPORT. Laws of the renderer: the ranges of the palette groups, the rule of a palette fault, and that the
searches which `backgroundFault` and `spriteFault` skip would have found nothing. -/

namespace Sys2Proof.Machine

/-- A lookup raises a fault exactly when its palette byte is above 63 under COLOR_POLICY = fault. -/
theorem paletteFault_isSome (s : State) (g : Nat) (i : PixelIndex) :
    (paletteFault s g i).isSome = true ↔
      63 < (vramByte s (paletteAddr g i)).toNat ∧ s.params.colorPolicy = .fault := by
  unfold paletteFault
  by_cases h : 63 < (vramByte s (paletteAddr g i)).toNat
  · cases hp : s.params.colorPolicy <;> simp [h]
  · simp [h]

theorem paletteFault_clean {s : State} {groups : List Nat} (h : paletteClean s groups = true) {g : Nat}
    (hg : g ∈ groups) (i : PixelIndex) : paletteFault s g i = none := by
  have hgi := List.all_eq_true.mp (List.all_eq_true.mp h g hg) i (by revert i; decide)
  simpa using hgi

/-- A background cell uses one of the palette groups 0 to 3 (R183). -/
theorem attrGroup_lt (s : State) (tx ty : Nat) : attrGroup s tx ty < 4 := by
  unfold attrGroup
  exact Nat.lt_of_le_of_lt Nat.and_le_right (by decide)

/-- A sprite uses one of the palette groups 4 to 7 (R219). -/
theorem spriteGroup_range (a : Byte) : 4 ≤ spriteGroup a ∧ spriteGroup a < 8 := by
  unfold spriteGroup
  have := (a.extractLsb' 0 2).isLt
  omega

/-- The first fault of the background pass is the one the whole search finds. -/
theorem backgroundFault_eq_search (s : State) :
    backgroundFault s = backgroundOrder.findSome? (backgroundStepFault s) := by
  unfold backgroundFault
  split
  · rename_i h
    refine (List.findSome?_eq_none_iff.mpr fun k _ => paletteFault_clean h ?_ _).symm
    have := attrGroup_lt s k.tx k.ty
    simp only [List.mem_cons, List.not_mem_nil]; omega
  · rfl

/-- Past the check for 8 by 16 sprites, the first fault of the sprite pass is the one the whole search finds. -/
theorem spriteFault_eq_search (s : State) (h : sprSize s = false) :
    spriteFault s = spriteOrder.findSome? (spriteStepFault s) := by
  unfold spriteFault
  rw [if_neg (by simp [h])]
  split
  · rename_i hc
    obtain ⟨hedge, hclean⟩ := hc
    refine (List.findSome?_eq_none_iff.mpr fun k _ => ?_).symm
    unfold spriteStepFault
    split
    · rfl
    · split
      · rfl
      · split
        · rw [hedge]
        · refine paletteFault_clean hclean ?_ _
          have := spriteGroup_range (spriteAttr s k.n)
          simp only [List.mem_cons, List.not_mem_nil]; omega
  · rfl

/-! ### The orders of the two passes -/

theorem mem_backgroundOrder (k : BgStep) :
    k ∈ backgroundOrder ↔ k.ty < 30 ∧ k.tx < 32 ∧ k.r < 8 ∧ k.c < 8 := by
  obtain ⟨ty, tx, r, c⟩ := k
  simp only [backgroundOrder, List.mem_flatMap, List.mem_map, List.mem_range, BgStep.mk.injEq]
  constructor
  · rintro ⟨_, h1, _, h2, _, h3, _, h4, rfl, rfl, rfl, rfl⟩
    exact ⟨h1, h2, h3, h4⟩
  · rintro ⟨h1, h2, h3, h4⟩
    exact ⟨ty, h1, tx, h2, r, h3, c, h4, rfl, rfl, rfl, rfl⟩

theorem mem_spriteOrder (k : SpriteStep) : k ∈ spriteOrder ↔ k.n < 64 ∧ k.r < 8 ∧ k.c < 8 := by
  obtain ⟨n, r, c⟩ := k
  simp only [spriteOrder, List.mem_flatMap, List.mem_map, List.mem_range, SpriteStep.mk.injEq]
  constructor
  · rintro ⟨_, h1, _, h2, _, h3, rfl, rfl, rfl⟩
    exact ⟨h1, h2, h3⟩
  · rintro ⟨h1, h2, h3⟩
    exact ⟨n, h1, r, h2, c, h3, rfl, rfl, rfl⟩

/-- The place of a background step in its order: each coordinate has its range, so the number decides the order. -/
def BgStep.place (k : BgStep) : Nat := 2048 * k.ty + 64 * k.tx + 8 * k.r + k.c

/-- The place of a sprite step in its order. -/
def SpriteStep.place (k : SpriteStep) : Nat := 64 * k.n + 8 * k.r + k.c

/-- Laying rows end to end keeps a list in rising order, when the places of an earlier row come before a later one's. -/
theorem pairwise_rows {α : Type} (R : α → α → Prop) (f : Nat → List α) (n : Nat)
    (inner : ∀ i < n, (f i).Pairwise R) (outer : ∀ i j, i < j → j < n → ∀ a ∈ f i, ∀ b ∈ f j, R a b) :
    ((List.range n).flatMap f).Pairwise R := by
  rw [List.pairwise_flatMap]
  refine ⟨fun i hi => inner i (List.mem_range.mp hi), ?_⟩
  refine List.Pairwise.imp_of_mem ?_ List.pairwise_lt_range
  intro i j _ hj hij
  exact outer i j hij (List.mem_range.mp hj)

/-- The background pass visits its steps in rising place (R180, R247). -/
theorem backgroundOrder_sorted : backgroundOrder.Pairwise fun a b => a.place < b.place := by
  unfold backgroundOrder
  refine pairwise_rows _ _ _ (fun ty _ => pairwise_rows _ _ _ (fun tx _ => pairwise_rows _ _ _ (fun r _ => ?_) ?_) ?_) ?_
  · rw [List.pairwise_map]
    exact List.pairwise_lt_range.imp fun h => by simp only [BgStep.place]; omega
  all_goals
    intro i j hij hj a ha b hb
    simp only [List.mem_flatMap, List.mem_map, List.mem_range] at ha hb
  · obtain ⟨_, _, rfl⟩ := ha
    obtain ⟨_, _, rfl⟩ := hb
    simp only [BgStep.place]; omega
  · obtain ⟨_, _, _, _, rfl⟩ := ha
    obtain ⟨_, _, _, _, rfl⟩ := hb
    simp only [BgStep.place]; omega
  · obtain ⟨_, _, _, _, _, _, rfl⟩ := ha
    obtain ⟨_, _, _, _, _, _, rfl⟩ := hb
    simp only [BgStep.place]; omega

/-- The sprite pass visits its steps in rising place (R212, R247). -/
theorem spriteOrder_sorted : spriteOrder.Pairwise fun a b => a.place < b.place := by
  unfold spriteOrder
  refine pairwise_rows _ _ _ (fun n _ => pairwise_rows _ _ _ (fun r _ => ?_) ?_) ?_
  · rw [List.pairwise_map]
    exact List.pairwise_lt_range.imp fun h => by simp only [SpriteStep.place]; omega
  all_goals
    intro i j hij hj a ha b hb
    simp only [List.mem_flatMap, List.mem_map, List.mem_range] at ha hb
  · obtain ⟨_, _, rfl⟩ := ha
    obtain ⟨_, _, rfl⟩ := hb
    simp only [SpriteStep.place]; omega
  · obtain ⟨_, _, _, _, rfl⟩ := ha
    obtain ⟨_, _, _, _, rfl⟩ := hb
    simp only [SpriteStep.place]; omega

/-- In a list in rising place, a search finds the member that has a result and no member of a lower place with one. -/
theorem findSome?_first {α β : Type} {place : α → Nat} {f : α → Option β} {l : List α}
    (sorted : l.Pairwise fun a b => place a < place b) {k : α} {b : β} (hk : k ∈ l) (hb : f k = some b)
    (first : ∀ a ∈ l, place a < place k → f a = none) : l.findSome? f = some b := by
  induction l with
  | nil => simp at hk
  | cons a l ih =>
    rw [List.pairwise_cons] at sorted
    rcases List.mem_cons.mp hk with rfl | hl
    · simp [hb]
    · rw [List.findSome?_cons, first a (by simp) (sorted.1 k hl)]
      exact ih sorted.2 hl fun c hc => first c (by simp [hc])

end Sys2Proof.Machine
end

