-- ==== Sys2Proof/Tests/Slice0.lean ====
section
/-! SUPPORT. Tests: the well-formedness smoke tests, one request word a row of the opcode table, the spec's vectors
(95_test_vectors.md, named in each comment), and a witness for every statement with hypotheses. -/

namespace Sys2Proof.Tests

open Sys2Proof.Machine

/-! ### Helpers -/

/-- The illustration parameters of 95_test_vectors.md, with FRAME_PERIOD = 3 and values for the other open ones. -/
def params : Params where
  framePeriod   := 3
  nmiArg        := true
  statusLow     := 5
  audioAddrA    := 0x4015
  audioAddrB    := 0x4017
  wramBase      := 0x0000
  wramSize      := 0x0800
  hwPalette     := Vector.replicate 64 ⟨0, 0, 0⟩
  mirrorPpuRegs := false
  ptStride      := 0x1000
  spriteYOffset := 0
  spriteEdge    := .clip
  colorPolicy   := .fault

/-- The parameters with the register mirrors answering. -/
def mirrors : Params := { params with mirrorPpuRegs := true }

/-- ZERO_INIT with those parameters. -/
def zero : State := { State.reset with params := params }

/-- ROM-T of the vectors, its tiles 1 to 4 of table 0 and tile 1 of table 1. -/
def romT : Memory :=
  [(0x10, 0xFF), (0x11, 0xFF), (0x12, 0xFF), (0x13, 0xFF), (0x14, 0xFF), (0x15, 0xFF), (0x16, 0xFF), (0x17, 0xFF)] ++
  [(0x20, 0x80), (0x28, 0x80)] ++
  [(0x30, 0xFF), (0x31, 0xFF), (0x32, 0xFF), (0x33, 0xFF), (0x34, 0xFF), (0x35, 0xFF), (0x36, 0xFF), (0x37, 0xFF)] ++
  [(0x38, 0xFF), (0x39, 0xFF), (0x3A, 0xFF), (0x3B, 0xFF), (0x3C, 0xFF), (0x3D, 0xFF), (0x3E, 0xFF), (0x3F, 0xFF)] ++
  [(0x40, 0xF0), (0x48, 0xCC)] ++
  [(0x1018, 0xFF), (0x1019, 0xFF), (0x101A, 0xFF), (0x101B, 0xFF), (0x101C, 0xFF), (0x101D, 0xFF), (0x101E, 0xFF),
    (0x101F, 0xFF)]

/-- PAL-R of the vectors: palette entry `j` holds 0x20 + `j`. -/
def palR : Memory := (List.range 32).map fun j => (0x3F00 + j, BitVec.ofNat 8 (0x20 + j))

/-- RS of the vectors, but that the unused sprites are the transparent tile 0 and not hidden ones. -/
def rs : State := { zero with ptrom := romT, vram := palR }

/-- What `f` sees of the state a request ends in. -/
def seen {α : Type} (f : State → α) : Result → Option α
  | .next t => some (f t)
  | _ => none

/-- The step that takes the request whose word is `w`. -/
def send (w : Nat) (s : State) : Result := step (s.withFetchWord 27 w)

/-! ### Well-formedness refuses an ill-formed term, for each of its checks -/

theorem test_wf_params : params.wf = true ∧ mirrors.wf = true := by decide
theorem test_wf_framePeriod : { params with framePeriod := 0 }.wf = false := by decide
theorem test_wf_audioAddrA : { params with audioAddrA := 0x2000 }.wf = false := by decide
theorem test_wf_audioAddrB : { params with audioAddrB := 0x4016 }.wf = false := by decide
theorem test_wf_audioDistinct : { params with audioAddrB := 0x4015 }.wf = false := by decide
theorem test_wf_audioMirrored : { mirrors with audioAddrA := 0x2008 }.wf = false := by decide
theorem test_wf_wramSize : { params with wramSize := 0 }.wf = false := by decide
theorem test_wf_wramEnd : { params with wramBase := 0xFFFF, wramSize := 2 }.wf = false := by decide
theorem test_wf_rdUnmapped_readable : (Instr.rdUnmapped 0x2007).wf params = false := by decide
theorem test_wf_rdUnmapped_mirror : (Instr.rdUnmapped 0x3FFF).wf mirrors = false := by decide
theorem test_wf_wrUnmapped_writable : (Instr.wrUnmapped 0x4014 0).wf params = false := by decide
theorem test_wf_wrUnmapped_audioA : (Instr.wrUnmapped 0x4015 0).wf params = false := by decide
theorem test_wf_wrUnmapped_audioB : (Instr.wrUnmapped 0x4017 0).wf params = false := by decide
theorem test_wf_wrUnmapped_mirror : (Instr.wrUnmapped 0x2008 0).wf mirrors = false := by decide

/-! ### Decoding: op (3 bits), address (16 bits), data (8 bits), written out from R70 to R72 -/

theorem test_decode_rdPpustatus : decode params 0b000001000000000001000000000 = .rdPpustatus := by decide
theorem test_decode_rdPpudata : decode params 0b000001000000000011101010101 = .rdPpudata := by decide
theorem test_decode_rdJoy : decode params 0b000010000000001011000000000 = .rdJoy := by decide
theorem test_decode_rdUnmapped : decode params 0b000001000000000100000000000 = .rdUnmapped 0x2008 := by decide
theorem test_decode_wrPpuctrl : decode params 0b001001000000000000010000100 = .wrPpuctrl 0x84 := by decide
theorem test_decode_wrPpumask : decode params 0b001001000000000000100011110 = .wrPpumask 0x1E := by decide
theorem test_decode_wrOamaddr : decode params 0b001001000000000001100010000 = .wrOamaddr 0x10 := by decide
theorem test_decode_wrOamdata : decode params 0b001001000000000010000010010 = .wrOamdata 0x12 := by decide
theorem test_decode_wrPpuscroll : decode params 0b001001000000000010100001000 = .wrPpuscroll 0x08 := by decide
theorem test_decode_wrPpuaddr : decode params 0b001001000000000011000100001 = .wrPpuaddr 0x21 := by decide
theorem test_decode_wrPpudata : decode params 0b001001000000000011110101010 = .wrPpudata 0xAA := by decide
theorem test_decode_wrOamdma : decode params 0b001010000000001010000000010 = .wrOamdma 0x02 := by decide
theorem test_decode_wrJoystrobe : decode params 0b001010000000001011000000001 = .wrJoystrobe 0x01 := by decide
theorem test_decode_wrAudioA : decode params 0b001010000000001010100001111 = .wrAudioA 0x0F := by decide
theorem test_decode_wrAudioB : decode params 0b001010000000001011101000000 = .wrAudioB 0x40 := by decide
theorem test_decode_wrUnmapped : decode params 0b001001000000000001000110011 = .wrUnmapped 0x2002 0x33 := by decide
theorem test_decode_tick : decode params 0b010111111111111111111111111 = .tick := by decide
theorem test_decode_render : decode params 0b011000000000000000000000000 = .render := by decide
theorem test_decode_setInput : decode params 0b100000100100011010001010110 = .setInput 0x56 := by decide
theorem test_decode_wireCpu : decode params 0b101000100100011010001010110 = .wireCpu := by decide
theorem test_decode_reserved6 : decode params 0b110000000000000000000000000 = .reserved6 := by decide
theorem test_decode_reserved7 : decode params 0b111111111111111111111111111 = .reserved7 := by decide

/-- 0x3FFE is a mirror of 0x2006 when mirrors answer and unmapped when they do not (R73; V-W17, V-W16). -/
theorem test_decode_mirror :
    decode mirrors 0b001001111111111111000100001 = .wrPpuaddr 0x21 ∧
    decode params 0b001001111111111111000100001 = .wrUnmapped 0x3FFE 0x21 := by decide

/-- A bit above bit 26 is no request (R70). -/
theorem test_decode_overlong : decodeTableWord 32 0x8000000 = none := by
  rw [decodeTableWord, decodeWord, if_neg (by decide)]
  rfl

/-- The decoder behind the host's question, on one word of each column of R72 and on a request that is no access. -/
theorem test_decodeTableWord :
    decodeTableWord 32 0x0200700 = some .rdPpudata ∧ decodeTableWord 27 0x1401500 = some (.wrAudioA 0) ∧
    decodeTableWord 32 0x5000000 = some .wireCpu := ⟨by decide, by decide, by decide⟩

/-! ### The opcode table's match words as the first request after reset -/

theorem test_first_reads : ∀ w ∈ [0x0200200, 0x0200700, 0x0401600, 0x0000000],
    seen (fun _ => ()) (step (State.reset.withFetchWord 32 w)) = some () := by decide
theorem test_first_writes : ∀ w ∈ [0x1200000, 0x1200100, 0x1200300, 0x1200400, 0x1200500, 0x1200600, 0x1200700,
      0x1401400, 0x1401600, 0x1401500, 0x1401700, 0x1000000],
    seen (fun _ => ()) (step (State.reset.withFetchWord 32 w)) = some () := by decide
theorem test_first_others : ∀ w ∈ [0x2000000, 0x3000000, 0x4000000, 0x5000000, 0x6000000, 0x7000000],
    seen (fun _ => ()) (step (State.reset.withFetchWord 32 w)) = some () := by decide

/-! ### Requests -/

/-- R100's example. -/
theorem test_wrPpuctrl : seen State.ppuctrl (send 0x1200084 zero) = some 0x84 := by decide
/-- V-W7. -/
theorem test_wrPpumask : seen State.ppuctrl (send 0x12001FF zero) = some 0 := by decide
/-- V-W7. -/
theorem test_wrOamaddr : seen (oamByte · 0x10) (send 0x1200310 zero) = some 0 := by decide
/-- V-W7. -/
theorem test_wrOamdata : seen State.oam (send 0x1200499 zero) = some [] := by decide
/-- V-W5, the write that reports. -/
theorem test_wrPpuscroll : seen State.trace (send 0x1200507 zero) = some [.diagScroll 7] := by decide
/-- V-W5, the write that does not. -/
theorem test_wrPpuscroll_zero : seen State.trace (send 0x1200500 zero) = some [] := by decide
/-- R103's example: bits 7:6 are masked off. -/
theorem test_wrPpuaddr_first :
    seen (fun t => (t.vAddr, t.w)) (send 0x12006FF zero) = some (0x003F, true) := by decide
/-- V-W19: a stored value of 0x5F leaves the 14-bit space. -/
theorem test_wrPpuaddr_overflow :
    seen (fun t => (t.vAddr, t.vOvf, t.w)) (send 0x1200605 { zero with vAddr := 0x5F, w := true }) =
      some (0x1F05, true, false) := by decide
/-- V-W2: increment 32. -/
theorem test_wrPpudata :
    seen (fun t => (t.vram, t.vAddr)) (send 0x1200711 { zero with ppuctrl := 4, vAddr := 0x23C0 }) =
      some ([(0x23C0, 0x11)], 0x23E0) := by decide
/-- P5: past the end the request faults and records its word. -/
theorem test_wrPpudata_fault :
    seen (fun t => (t.vram, t.fault)) (send 0x1200731 { zero with vAddr := 0, vOvf := true }) =
      some ([], some (.vramOutOfRange 0x1200731)) := by decide
/-- V-W10: a page that is only half inside the segment. -/
theorem test_wrOamdma_fault :
    seen State.fault (send 0x1401402 { zero with params := { params with wramBase := 0x80, wramSize := 0x200 } }) =
      some (some (.dmaSourceOutOfRange 2)) := by decide
/-- R109's example, at its first, second and last byte: a source of page 2 in a segment whose base is 0x80. -/
theorem test_wrOamdma (s : State) (h : s.params.wramBase = 0x80) (hw : s.wram = [(0x180, 7), (0x181, 8), (0x27F, 9)]) :
    [0, 1, 255].map (dmaCopy s 2).read = [7, 8, 9] := by
  simp [dmaCopy_read, wramByte, h, hw, dmaSource, Memory.read]
/-- V-W13. -/
theorem test_wrJoystrobe_one :
    seen (fun t => (t.joyStrobe, t.joyIdx)) (send 0x1401603 { zero with joyIdx := 5 }) = some (true, 0) := by decide
/-- V-W12. -/
theorem test_wrJoystrobe_zero :
    seen (fun t => (t.joyStrobe, t.joyIdx)) (send 0x14016FE { zero with joyIdx := 5 }) = some (false, 5) := by decide
/-- V-W14. -/
theorem test_wrAudioA : seen State.trace (send 0x140150F zero) = some [.apuWrite 0x4015 0x0F] := by decide
/-- V-W14. -/
theorem test_wrAudioB : seen State.trace (send 0x1401740 zero) = some [.apuWrite 0x4017 0x40] := by decide
/-- V-W15. -/
theorem test_wrUnmapped : seen State.fault (send 0x1200200 zero) = some (some (.unmappedWrite 0x2002 0)) := by decide
/-- R140's example. -/
theorem test_rdPpudata :
    seen (fun t => (t.response, t.rdbuf, t.vAddr))
        (send 0x0200700 { zero with vram := [(0x2108, 0xAA), (0x2109, 0xBB)], rdbuf := 0x11, vAddr := 0x2108 }) =
      some (.data 0x11, 0xAA, 0x2109) := by decide
/-- V-R3, its first read: the top byte is read and the cursor overflows. -/
theorem test_rdPpudata_top :
    seen (fun t => (t.response, t.rdbuf, t.vOvf)) (send 0x0200700 { zero with vram := [(0x3FFF, 0x66)], vAddr := 0x3FFF }) =
      some (.data 0, 0x66, true) := by decide
/-- R141: bit 7 is set; V-R5: the toggle stays. -/
theorem test_rdPpustatus :
    seen (fun t => (t.response, t.w)) (send 0x0200200 { zero with w := true }) = some (.data 0x85, true) := by decide
/-- W-§8-4, its fifth read: bit 4 of 0b10110001. -/
theorem test_rdJoy :
    seen (fun t => (t.response, t.joyIdx)) (send 0x0401600 { zero with joyState := 0b10110001, joyIdx := 4 }) =
      some (.data 1, 5) := by decide
/-- W-§8-4, its ninth read. -/
theorem test_rdJoy_saturated :
    seen (fun t => (t.response, t.joyIdx)) (send 0x0401600 { zero with joyIdx := 8 }) = some (.data 1, 8) := by decide
/-- V-R8. -/
theorem test_rdUnmapped : seen State.fault (send 0x0200000 zero) = some (some (.unmappedRead 0x2000)) := by decide
/-- R160's example: FRAME_PERIOD = 3, the third TICK. -/
theorem test_tick_wrap :
    seen (fun t => (t.tick, t.trace)) (send 0x2000000 { zero with tick := 2, ppuctrl := 0x80, wired := true }) =
      some (0, [.nmi true]) := by decide
/-- V-T1. -/
theorem test_tick_unwired :
    seen (fun t => (t.tick, t.fault)) (send 0x2000000 zero) = some (0, some .notWired) := by decide
/-- V-T4: WIRE_CPU with ignored fields. -/
theorem test_wireCpu : seen State.wired (send 0x5123456 zero) = some true := by decide
/-- V-T5. -/
theorem test_setInput : seen State.joyState (send 0x4123456 zero) = some 0x56 := by decide
/-- V-E1: the refusal, and the request after it has no step. -/
theorem test_reserved6 :
    seen (fun t => (t.refused, t.ppuctrl)) (send 0x6000000 zero) = some (true, 0) ∧
    step { zero with refused := true, arrivals := [.request 0x1200001] } = .refused .reservedRequest := ⟨by decide, rfl⟩
/-- V-E2. -/
theorem test_reserved7 : seen State.refused (send 0x7FFFFFF zero) = some true := by decide

/-! ### RENDER: that it completes or faults, and single pixels of it -/

/-- V-B1: a clean palette. -/
theorem test_render_completes : seen (fun t => (t.fbValid, t.response)) (send 0x3000000 rs) = some (true, .frame) := by
  decide
/-- V-S14. -/
theorem test_render_tall :
    seen (fun t => (t.fbValid, t.fault)) (send 0x3000000 { rs with ppuctrl := 0x20 }) =
      some (false, some .sprite8x16Unimplemented) := by decide
/-- The pixels of a completed frame are those of `overlay`. -/
theorem test_render_pixel (s : State) (x : Fin 256) (y : Fin 240) :
    (renderFrame s).pixel x y = overlay s x y (backgroundColor s x y) := by simp [renderFrame]
/-- V-B2: row 0 of tile 4. -/
theorem test_background_row :
    (List.range 8).map (backgroundColor { rs with vram := (0x2000, 4) :: palR } · 0) =
      [0x23, 0x23, 0x21, 0x21, 0x22, 0x22, 0x20, 0x20] := by decide
/-- V-B5: cell (5, 6) is in the bottom-left quadrant, cell (31, 29) in the top-right one. -/
theorem test_attribute_quadrants :
    attrGroup { rs with vram := [(0x23C9, 0x20), (0x23FF, 0x0C)] } 5 6 = 2 ∧
    attrGroup { rs with vram := [(0x23C9, 0x20), (0x23FF, 0x0C)] } 6 6 = 0 ∧
    attrGroup { rs with vram := [(0x23C9, 0x20), (0x23FF, 0x0C)] } 31 29 = 3 := by decide
/-- V-B3: table 1. -/
theorem test_background_table : backgroundColor { rs with ppuctrl := 0x10, vram := (0x2000, 1) :: palR } 7 7 = 0x22 := by
  decide
/-- V-B6: the byte that faults, and V-B7: the same byte masked. -/
theorem test_palette_policy :
    paletteFault { zero with vram := [(0x3F00, 0x40)] } 0 0 = some (.colorIndexOutOfRange 0x3F00 0x40) ∧
    paletteFault { zero with vram := [(0x3F00, 0x40)], params := { params with colorPolicy := .mask6 } } 0 0 = none ∧
    paletteColor { zero with vram := [(0x3F00, 0x40)] } 0 0 = 0 := by decide
/-- V-S5: group 7, row 0 flipped. -/
theorem test_sprite_flip :
    (List.range 8).map (fun c => spriteColor { rs with oam := [(0, 10), (1, 4), (2, 0x43), (3, 20)] } 0 (20 + c) 10) =
      [none, none, some 0x3E, some 0x3E, some 0x3D, some 0x3D, some 0x3F, some 0x3F] := by decide
/-- V-S3: vertical flip. -/
theorem test_sprite_vflip :
    spriteColor { rs with oam := [(0, 10), (1, 2), (2, 0x80), (3, 20)] } 0 20 17 = some 0x33 ∧
    spriteColor { rs with oam := [(0, 10), (1, 2), (2, 0x80), (3, 20)] } 0 20 10 = none := by decide
/-- V-S6: Y = 255 hides; and V-S17: the offset moves a sprite one row down. -/
theorem test_sprite_place :
    spriteColor { rs with oam := [(0, 255), (1, 3)] } 0 0 255 = none ∧
    spriteColor { rs with oam := [(0, 10), (1, 2), (3, 20)], params := { params with spriteYOffset := 1 } } 0 20 11 =
      some 0x33 := by decide
/-- V-S12: where two sprites meet the higher-numbered one is left. -/
theorem test_sprite_priority :
    let s := { rs with oam := [(0, 50), (1, 3), (3, 50), (4, 50), (5, 3), (6, 1), (7, 54)] }
    overlay s 54 50 0x20 = 0x37 ∧ overlay s 53 50 0x20 = 0x33 ∧ overlay s 58 50 0x20 = 0x37 := by decide
/-- V-S9, V-S11: only an opaque pixel past the edge faults. -/
theorem test_sprite_edge :
    let p := { params with spriteEdge := .fault }
    spriteStepFault { rs with params := p, oam := [(0, 236), (1, 3), (3, 100)] } ⟨0, 4, 0⟩ = some (.spriteOffScreen 0) ∧
    spriteStepFault { rs with params := p, oam := [(1, 2), (3, 252)] } ⟨0, 0, 4⟩ = none := by decide

/-! ### Construction and the pseudo-requests -/

/-- V-E5, on an image of four bytes. -/
theorem test_construct_wrong_size :
    (construct { zeroInit with image := [1, 2, 3, 4] }).fault = some (.badPatternRomSize 4) := by decide
/-- P1's words 2 to 5 from its pseudo-requests. -/
theorem test_poke : Driver.poke 0x2108 [0xAA, 0xBB] = [0x1200621, 0x1200608, 0x12007AA, 0x12007BB] := by decide
/-- R82: `strobe`, and R81: `tick` and `input`. -/
theorem test_driver_words :
    Driver.strobe = [0x1401601, 0x1401600] ∧ Driver.ticks 2 = [0x2000000, 0x2000000] ∧
    Driver.input 0xB1 = [0x40000B1] ∧ Driver.dma 2 = [0x1401402] ∧ Driver.rd 0x2007 = [0x0200700] := by decide

/-! ### A witness for every statement with hypotheses, and for each of its clauses at the edge of its range -/

theorem zero_inv : zero.Inv where
  paramsWf := by decide
  tickRange := by decide
  joyRange := by decide
  joyHeld := by decide
  vramWf := by decide
  oamWf := by decide
  ptromWf := by decide
  wramWf := by decide

theorem witness_DecodeOfEncodeIsTheRequest :
    params.wf = true ∧ (Instr.rdUnmapped 0x2006).wf params = true ∧ (Instr.wrUnmapped 0xFFFF 0xFF).wf params = true ∧
    mirrors.wf = true ∧ (Instr.rdUnmapped 0x4000).wf mirrors = true ∧ (Instr.wrUnmapped 0x2002 0).wf mirrors = true ∧
    (Instr.setInput 0xFF).wf mirrors = true := by decide

theorem witness_DecodeFollowsTheOpcodeTable :
    params.wf = true ∧ (∀ a, Instr.rdPpudata ≠ .rdUnmapped a) ∧ (∀ a d, Instr.rdPpudata ≠ .wrUnmapped a d) ∧
    (0x02007FF : ReqWord) &&& rowMask params .rdPpudata = rowMatch params .rdPpudata ∧
    (0x03FFF00 : ReqWord) &&& rowMask mirrors .rdPpudata = rowMatch mirrors .rdPpudata :=
  ⟨by decide, nofun, nofun, by decide, by decide⟩

theorem witness_UnusedFieldsAreIgnored : (2 : BitVec 3) ≠ 0 ∧ (2 : BitVec 3) ≠ 1 ∧ (7 : BitVec 3) ≠ 4 := by decide

theorem witness_MirrorsAnswerAsTheEightRegisters_mirror :
    mirrors.mirrorPpuRegs = true ∧ 0x2008 ≤ (0x2008 : BusAddr).toNat ∧ (0x2008 : BusAddr).toNat ≤ 0x3FFF ∧
    0x2008 ≤ (0x3FFF : BusAddr).toNat ∧ (0x3FFF : BusAddr).toNat ≤ 0x3FFF := by decide

theorem witness_MirrorsAnswerAsTheEightRegisters_exact :
    params.mirrorPpuRegs = false ∧ (0x2007 : BusAddr).toNat < 0x2008 ∧ 0x3FFF < (0x4000 : BusAddr).toNat := by decide

theorem witness_OverlongNumbersAreNoRequests : 2 ^ 27 ≤ (2 : Nat) ^ 27 ∧ (2 : Nat) ^ 27 - 1 < 2 ^ 27 := by decide

theorem witness_StepRunsTheDecodedRequest :
    ∃ s : State, s.running ∧ s.arrivals = .request 0x7FFFFFF :: [] :=
  ⟨{ zero with arrivals := [.request 0x7FFFFFF] }, by decide, rfl⟩

theorem witness_OnlyARunningBlockSteps :
    zero.running ∧ (∃ s : State, s.fault = some .notWired) ∧ ∃ s : State, s.fault = none ∧ s.refused = true :=
  ⟨by decide, ⟨{ zero with fault := some .notWired }, rfl⟩, ⟨{ zero with refused := true }, rfl, rfl⟩⟩

theorem witness_EnvironmentChangesOnlyWorkRam :
    zero.running ∧ zero.arrivals = [] ∧ (∃ s : State, s.running ∧ s.arrivals = .wramStore 0x7FF 1 :: []) ∧
    inWram zero 0 = true ∧ inWram zero 0x7FF = true ∧ inWram zero 0x800 = false :=
  ⟨by decide, rfl, ⟨{ zero with arrivals := [.wramStore 0x7FF 1] }, by decide, rfl⟩, by decide, by decide, by decide⟩

theorem witness_ScrollWriteReportsANonzeroByte : (1 : Byte) ≠ 0 ∧ (0 : Byte) = 0 := by decide

theorem witness_FirstAddressWriteSetsTheHighBits :
    zero.w = false ∧ ∃ s t : State, exec (.wrPpuaddr 0xFF) s = .next t ∧ s.vOvf = true ∧ t.vOvf = false :=
  ⟨rfl, { zero with vOvf := true }, _, rfl, rfl, rfl⟩

theorem witness_SecondAddressWriteShiftsTheCursor :
    (∃ s : State, s.w = true ∧ s.vOvf = false ∧ s.vAddr.toNat < 64 ∧ s.vAddr.toNat = 63) ∧
    (∃ s : State, s.w = true ∧ s.vOvf = false ∧ 64 ≤ s.vAddr.toNat ∧ s.vAddr.toNat = 64) ∧
    ∃ s : State, s.w = true ∧ s.vOvf = true :=
  ⟨⟨{ zero with w := true, vAddr := 63 }, by decide⟩, ⟨{ zero with w := true, vAddr := 64 }, by decide⟩,
    ⟨{ zero with w := true, vOvf := true }, by decide⟩⟩

theorem witness_AddressPairSetsTheCursor : zero.w = false := rfl

theorem witness_SetaddrReachesItsAddress :
    ∃ s : State, s.running ∧ s.w = false ∧ s.arrivals = (Driver.setaddr 0xFFFF).map .request :=
  ⟨{ zero with arrivals := (Driver.setaddr 0xFFFF).map .request }, by decide, rfl, rfl⟩

theorem witness_DataWriteStoresAndAdvances :
    (∃ s : State, s.vOvf = false ∧ s.vAddr = 0x3FFF) ∧ ∃ s : State, s.vOvf = true :=
  ⟨⟨{ zero with vAddr := 0x3FFF }, rfl, rfl⟩, ⟨{ zero with vOvf := true }, rfl⟩⟩

theorem witness_ControlWriteChangesTheNextStep :
    ∃ s : State, s.vOvf = false ∧ s.vAddr.toNat + 32 ≤ 0x3FFF ∧ s.vAddr.toNat + 32 = 0x3FFF :=
  ⟨{ zero with vAddr := 0x3FDF }, by decide⟩

theorem witness_DmaCopiesThePage_in :
    ∀ k < 256, params.wramBase.toNat ≤ (7 : Byte).toNat * 256 + k ∧
      (7 : Byte).toNat * 256 + k < params.wramBase.toNat + params.wramSize := by
  intro k hk
  simp [params]
  omega

theorem witness_DmaCopiesThePage_out :
    (∃ k < 256, (8 : Byte).toNat * 256 + k < params.wramBase.toNat ∨
      params.wramBase.toNat + params.wramSize ≤ (8 : Byte).toNat * 256 + k) ∧
    ∃ k < 256, (0 : Byte).toNat * 256 + k < (1 : BusAddr).toNat := ⟨⟨0, by decide⟩, ⟨0, by decide⟩⟩

theorem witness_StrobeWriteSetsTheMode : (1 : Byte).getLsbD 0 = true ∧ (0xFE : Byte).getLsbD 0 = false := by decide

theorem witness_AudioWritesAreForwarded : zero.params.wf = true := by decide

theorem witness_UnmappedAccessesFault :
    mirrors.mirrorPpuRegs = true ∧ (0x2000 : BusAddr).toNat < 0x2008 ∧ 0x3FFF < (0x4000 : BusAddr).toNat ∧
    (0x2006 : BusAddr) ∉ [(0x2002 : BusAddr), 0x2007, 0x4016] ∧ (0x4000 : BusAddr) ∉ [(0x2002 : BusAddr), 0x2007, 0x4016] ∧
    (0x2002 : BusAddr) ∉ [(0x2000 : BusAddr), 0x2001, 0x2003, 0x2004, 0x2005, 0x2006, 0x2007, 0x4014, 0x4016,
      params.audioAddrA, params.audioAddrB] ∧
    (0xFFFF : BusAddr) ∉ [(0x2000 : BusAddr), 0x2001, 0x2003, 0x2004, 0x2005, 0x2006, 0x2007, 0x4014, 0x4016,
      params.audioAddrA, params.audioAddrB] := by
  simp [mirrors, params]

theorem witness_DataReadReturnsTheBuffer :
    (∃ s : State, s.vOvf = false ∧ s.vAddr = 0x3FFF) ∧ ∃ s : State, s.vOvf = true :=
  ⟨⟨{ zero with vAddr := 0x3FFF }, rfl, rfl⟩, ⟨{ zero with vOvf := true }, rfl⟩⟩

theorem witness_SecondDataReadReturnsTheByte :
    (∃ s : State, s.vOvf = false ∧ s.vAddr.toNat + (if s.ppuctrl.getLsbD 2 then 32 else 1) ≤ 0x3FFF ∧ s.vAddr = 0x3FFE) ∧
    ∃ s : State, s.vOvf = false ∧ s.vAddr.toNat + (if s.ppuctrl.getLsbD 2 then 32 else 1) ≤ 0x3FFF ∧ s.vAddr = 0x3FDF :=
  ⟨⟨{ zero with vAddr := 0x3FFE }, by decide⟩, ⟨{ zero with vAddr := 0x3FDF, ppuctrl := 4 }, by decide⟩⟩

theorem witness_ReadAfterDataWriteIsStale :
    ∃ s : State, s.vOvf = false ∧ s.vAddr.toNat + (if s.ppuctrl.getLsbD 2 then 32 else 1) ≤ 0x3FFF ∧ s.vAddr = 0x3FFE :=
  ⟨{ zero with vAddr := 0x3FFE }, by decide⟩

theorem witness_ControllerReadReturnsTheBit :
    (∃ s : State, 7 < s.joyIdx.toNat ∧ s.joyIdx = 8) ∧
    (∃ s : State, s.joyIdx.toNat ≤ 7 ∧ s.joyStrobe = true ∧ s.joyIdx = 7) ∧
    ∃ s : State, s.joyIdx.toNat ≤ 7 ∧ s.joyStrobe = false ∧ s.joyIdx = 7 :=
  ⟨⟨{ zero with joyIdx := 8 }, by decide⟩, ⟨{ zero with joyIdx := 7, joyStrobe := true }, by decide⟩,
    ⟨{ zero with joyIdx := 7 }, by decide⟩⟩

theorem witness_EightReadsReturnTheSnapshotInOrder : zero.joyStrobe = false ∧ zero.joyIdx = 0 := by decide

theorem witness_HeldStrobeReadsBitZero : ∃ s : State, s.joyStrobe = true ∧ s.joyIdx = 0 :=
  ⟨{ zero with joyStrobe := true }, by decide⟩

theorem witness_TickCountsAndWraps :
    (∃ s : State, s.wired = true ∧ s.tick + 1 ≠ s.params.framePeriod ∧ s.tick = 1) ∧
    (∃ s : State, s.wired = true ∧ s.tick + 1 = s.params.framePeriod ∧ s.ppuctrl.getLsbD 7 = true) ∧
    (∃ s : State, s.wired = true ∧ s.tick + 1 = s.params.framePeriod ∧ s.ppuctrl.getLsbD 7 = false) ∧
    zero.wired = false :=
  ⟨⟨{ zero with wired := true, tick := 1 }, by decide⟩,
    ⟨{ zero with wired := true, tick := 2, ppuctrl := 0x80 }, by decide⟩,
    ⟨{ zero with wired := true, tick := 2 }, by decide⟩, rfl⟩

theorem witness_TicksWrapOncePerFrame :
    ∃ s : State, s.wired = true ∧ s.tick = 0 ∧ 1 ≤ s.params.framePeriod ∧ s.params.framePeriod = 1 :=
  ⟨{ zero with wired := true, params := { params with framePeriod := 1 } }, by decide⟩

theorem witness_OnlyAWrapAssertsNmi :
    ∃ s t : State, exec .tick s = .next t ∧ s.trace = [] ∧ Event.nmi true ∈ t.trace :=
  ⟨{ zero with wired := true, tick := 2, ppuctrl := 0x80 }, _, rfl, rfl, by decide⟩

theorem witness_ReservedRequestsAreRefused : zero.fault = none := rfl

theorem witness_TilePixelReadsTheTwoPlanes :
    7 < 8 ∧ 0x1FF0 = zero.params.ptStride * true.toNat + 16 * (255 : Byte).toNat ∧ zero.params.ptStride = 0x1000 ∧
    0x1FF0 + 15 < 16384 := by decide

theorem witness_PaletteLookupChecksTheByte :
    (63 : Byte) = vramByte { zero with vram := [(0x3F1F, 63)] } (0x3F00 + 4 * 7 + (3 : PixelIndex).toNat) ∧
    (63 : Byte).toNat ≤ 63 ∧
    (64 : Byte) = vramByte { zero with vram := [(0x3F1F, 64)] } (0x3F00 + 4 * 7 + (3 : PixelIndex).toNat) ∧
    63 < (64 : Byte).toNat ∧ params.colorPolicy = .fault ∧ { params with colorPolicy := .mask6 }.colorPolicy = .mask6 := by
  decide

/-- Sprite 63 of the state is opaque everywhere, at Y = 254 and X = 255. -/
def lastSprite : State := { rs with oam := [(252, 254), (253, 3), (255, 255)] }

theorem witness_SpritePixelsLandWhereTheRulesSay :
    (∃ s : State, oamByte s (4 * 63) = 255) ∧ oamByte lastSprite (4 * 63) = 254 ∧ (254 : Byte) ≠ 255 ∧ 7 < 8 ∧
    spriteColor lastSprite 63 262 261 = some 0x33 :=
  ⟨⟨{ zero with oam := [(252, 255)] }, by decide⟩, by decide, by decide, by decide, by decide⟩

theorem witness_RenderCompletesOnACleanPalette_clip :
    zero.ppuctrl.getLsbD 5 = false ∧ (∀ k < 32, (vramByte zero (0x3F00 + k)).toNat ≤ 63) ∧
    zero.params.spriteEdge = .clip :=
  ⟨by decide, fun _ _ => by simp [zero, State.reset, vramByte, Memory.read, Memory.unlisted], rfl⟩

theorem witness_RenderCompletesOnACleanPalette_fault :
    ∃ s : State, s.ppuctrl.getLsbD 5 = false ∧ s.params.colorPolicy = .mask6 ∧ s.params.spriteEdge = .fault ∧
      ∀ n < 64, oamByte s (4 * n) = 255 ∨ ((oamByte s (4 * n + 3)).toNat ≤ 248 ∧
        (oamByte s (4 * n)).toNat + s.params.spriteYOffset.val ≤ 232) :=
  ⟨{ zero with
      params := { params with colorPolicy := .mask6, spriteEdge := .fault }
      oam := [(0, 232), (3, 248), (4, 255), (7, 255)] }, by decide, rfl, rfl, by decide⟩

theorem foldlM_answers {α β ε : Type} (f : β → α → Except ε β) (h : ∀ b a, ∃ c, f b a = .ok c) (l : List α) (b : β) :
    ∃ c, l.foldlM f b = .ok c := by
  induction l generalizing b with
  | nil => exact ⟨b, rfl⟩
  | cons a l ih =>
    obtain ⟨c, hc⟩ := h b a
    rw [List.foldlM_cons, hc]
    exact ih c

/-- Where palette bytes are masked, pixels past the edge clipped and sprites 8 by 8, the two loops leave a frame. -/
theorem renderLoop_answers (s : State) (hp : s.params.colorPolicy = .mask6) (he : s.params.spriteEdge = .clip)
    (h5 : sprSize s = false) : ∃ fr : Frame, renderLoop s = .ok fr := by
  have hpal : ∀ g i, paletteFault s g i = none := fun g i => by simp [paletteFault, hp]
  have hb : ∀ fr k, ∃ fr', backgroundTurn s fr k = .ok fr' := fun fr k => by
    simp [backgroundTurn, backgroundStepFault, hpal]
  have hk : ∀ k, spriteStepFault s k = none := fun k => by simp [spriteStepFault, hpal, he]
  have hs : ∀ fr k, ∃ fr', spriteTurn s fr k = .ok fr' := fun fr k => by simp [spriteTurn, hk]
  obtain ⟨f1, h1⟩ := foldlM_answers _ hb backgroundOrder s.fbi
  obtain ⟨f2, h2⟩ := foldlM_answers _ hs spriteOrder f1
  refine ⟨f2, ?_⟩
  rw [renderLoop, backgroundLoop, h1, Except.bind, spriteLoop, if_neg (by simp [h5]), h2]

/-- With 8 by 16 sprites selected the two loops stop at a fault. -/
theorem renderLoop_tall (s : State) (h5 : sprSize s = true) : ∃ f : FaultRecord, renderLoop s = .error f := by
  rcases h : backgroundLoop s s.fbi with f | fr
  · exact ⟨f, by rw [renderLoop, h, Except.bind]⟩
  · exact ⟨.sprite8x16Unimplemented, by rw [renderLoop, h, Except.bind, spriteLoop, if_pos h5]⟩

theorem witness_RenderIsTheSpecsTwoLoops :
    (∃ (s : State) (fr : Frame), renderLoop s = .ok fr) ∧ ∃ (s : State) (f : FaultRecord), renderLoop s = .error f :=
  ⟨⟨{ zero with params := { params with colorPolicy := .mask6 } }, renderLoop_answers _ rfl rfl (by decide)⟩,
    ⟨{ zero with ppuctrl := 0x20 }, renderLoop_tall _ (by decide)⟩⟩

theorem witness_FrameDependsOnlyOnWhatIsListed :
    ∃ s t s' : State, exec .render s = .next s' ∧ s'.response = .frame ∧ s.tick ≠ t.tick ∧ s.rdbuf ≠ t.rdbuf ∧
      s.ppuctrl ≠ t.ppuctrl ∧ s.ppuctrl.extractLsb' 0 2 = t.ppuctrl.extractLsb' 0 2 ∧
      (∀ k ∈ [3, 4, 5], s.ppuctrl.getLsbD k = t.ppuctrl.getLsbD k) ∧ s.vram = t.vram ∧ s.oam = t.oam ∧
      s.ptrom = t.ptrom ∧ s.params = t.params :=
  ⟨rs, { rs with tick := 1, rdbuf := 1, ppuctrl := 0xC4 }, _, rfl, rfl, by decide, by decide, by decide, by decide,
    by decide, rfl, rfl, rfl, rfl⟩

/-- Sprites 0 and 63 of the state are opaque at column 0, row 0. -/
def twoSprites : State := { rs with oam := [(1, 3), (253, 3), (254, 1)] }

theorem witness_HighestOpaqueSpriteWins :
    (∃ t, exec .render twoSprites = .next t ∧ t.response = .frame) ∧
    (∀ n < 64, spriteColor twoSprites n (8 : Fin 256) (0 : Fin 240) = none) ∧
    spriteColor twoSprites 63 (0 : Fin 256) (0 : Fin 240) = some 0x37 ∧
    (∀ m < 64, 63 < m → spriteColor twoSprites m (0 : Fin 256) (0 : Fin 240) = none) :=
  ⟨⟨_, rfl, rfl⟩, by decide, by decide, fun m h1 h2 => by omega⟩

theorem witness_TallSpritesFault :
    ∃ s : State, s.ppuctrl.getLsbD 5 = true ∧ ∀ k < 16, (vramByte s (0x3F00 + k)).toNat ≤ 63 :=
  ⟨{ zero with ppuctrl := 0x20, vram := [(0x3F0F, 63), (0x3F10, 64)] }, by decide, by decide⟩

/-- The palette address a background pixel reads, as the statement spells it. -/
def backgroundAdr (s : State) (tx ty r c : Nat) : Nat :=
  0x3F00 + 4 * attrGroup s tx ty + (tilePixel s (s.ppuctrl.getLsbD 4)
    (vramByte s (0x2000 + 0x400 * (s.ppuctrl.toNat % 4) + 32 * ty + tx)) r c).toNat

/-- Cell (1, 0) of the state is the first that reads the byte 0x40, and 8 by 16 sprites are selected. -/
def badCell : State := { zero with ppuctrl := 0x20, ptrom := romT, vram := [(0x2001, 1), (0x3F01, 0x40)] }

theorem witness_BackgroundColorFaultComesFirst :
    badCell.params.colorPolicy = .fault ∧ badCell.ppuctrl.getLsbD 5 = true ∧
    63 < (vramByte badCell (backgroundAdr badCell 1 0 0 0)).toNat ∧
    63 < (vramByte badCell (backgroundAdr badCell 1 0 7 7)).toNat ∧
    (∀ tx < 32, ∀ ty < 30, ∀ r < 8, ∀ c < 8, ty < 0 ∨ ty = 0 ∧ (tx < 1 ∨ tx = 1 ∧ (r < 0 ∨ r = 0 ∧ c < 0)) →
      (vramByte badCell (backgroundAdr badCell tx ty r c)).toNat ≤ 63) ∧
    63 < (vramByte { badCell with vram := [(0x23BF, 1), (0x3F01, 0x40)] }
      (backgroundAdr { badCell with vram := [(0x23BF, 1), (0x3F01, 0x40)] } 31 29 7 7)).toNat := by
  refine ⟨rfl, by decide, by decide, by decide, fun tx _ ty _ r hr c hc h => ?_, by decide⟩
  obtain ⟨rfl, rfl⟩ : tx = 0 ∧ ty = 0 := by omega
  revert r c
  decide

/-- Sprite 0 is hidden; pixel (0, 4) of sprite 1, at X = 252, is the first opaque one past the edge, which faults. -/
def edgeSprite : State :=
  { rs with oam := [(0, 255), (5, 3), (7, 252)], params := { params with spriteEdge := .fault } }

/-- Sprite 0 is hidden; pixel (0, 0) of sprite 1, at the last column and row, reads the byte 0x99 (V-S18's). -/
def badSprite : State := { zero with ptrom := romT, vram := [(0x3F13, 0x99)], oam := [(0, 255), (4, 239), (5, 3), (7, 255)] }

theorem witness_SpritePassRaisesItsFirstFault_edge :
    edgeSprite.ppuctrl.getLsbD 5 = false ∧ (∀ k < 16, (vramByte edgeSprite (0x3F00 + k)).toNat ≤ 63) ∧
    oamByte edgeSprite (4 * 1) ≠ 255 ∧ tilePixel edgeSprite false 3 0 4 ≠ 0 ∧
    255 < (oamByte edgeSprite (4 * 1 + 3)).toNat + 4 ∧ edgeSprite.params.spriteEdge = .fault ∧
    (∀ m < 64, ∀ q < 8, ∀ d < 8, m < 1 ∨ m = 1 ∧ (q < 0 ∨ q = 0 ∧ d < 4) → oamByte edgeSprite (4 * m) = 255 ∨
      tilePixel edgeSprite false (oamByte edgeSprite (4 * m + 1)) q d = 0 ∨
      if 255 < (oamByte edgeSprite (4 * m + 3)).toNat + d ∨ 239 < (oamByte edgeSprite (4 * m)).toNat + 0 + q then
        edgeSprite.params.spriteEdge = .clip
      else edgeSprite.params.colorPolicy = .mask6 ∨
        (vramByte edgeSprite (0x3F00 + 4 * (4 + (oamByte edgeSprite (4 * m + 2)).toNat % 4) +
          (tilePixel edgeSprite false (oamByte edgeSprite (4 * m + 1)) q d).toNat)).toNat ≤ 63) := by
  refine ⟨by decide, by decide, by decide, by decide, by decide, rfl, fun m _ q _ d _ h => ?_⟩
  rcases h with h | ⟨rfl, h⟩
  · obtain rfl : m = 0 := by omega
    exact .inl (by decide)
  · obtain ⟨rfl, hd⟩ : q = 0 ∧ d < 4 := by omega
    exact .inr (.inr (by revert d; decide))

theorem witness_SpritePassRaisesItsFirstFault_color :
    badSprite.ppuctrl.getLsbD 5 = false ∧ (∀ k < 16, (vramByte badSprite (0x3F00 + k)).toNat ≤ 63) ∧
    oamByte badSprite (4 * 1) ≠ 255 ∧ tilePixel badSprite false 3 0 0 = 3 ∧
    (oamByte badSprite (4 * 1 + 3)).toNat + 0 ≤ 255 ∧ (oamByte badSprite (4 * 1)).toNat + 0 + 0 ≤ 239 ∧
    badSprite.params.colorPolicy = .fault ∧ 63 < (vramByte badSprite (0x3F00 + 4 * (4 + 0) + 3)).toNat ∧
    (∀ m < 64, ∀ q < 8, ∀ d < 8, m < 1 ∨ m = 1 ∧ (q < 0 ∨ q = 0 ∧ d < 0) → oamByte badSprite (4 * m) = 255) := by
  refine ⟨by decide, by decide, by decide, by decide, by decide, by decide, rfl, by decide, fun m _ q _ d _ h => ?_⟩
  obtain rfl : m = 0 := by omega
  decide

/-- Cell (31, 29) of the state shows tile 4. -/
def lastCell : State := { rs with vram := (0x23BF, 4) :: palR }

theorem witness_BackgroundPixelsAreTheFetchedTiles :
    (2 : PixelIndex) = tilePixel lastCell (lastCell.ppuctrl.getLsbD 4)
      (vramByte lastCell (0x2000 + 0x400 * (lastCell.ppuctrl.toNat % 4) + 32 * (232 / 8) + 252 / 8)) (232 % 8) (252 % 8) ∧
    (∃ t, exec .render lastCell = .next t ∧ t.response = .frame) ∧
    ∀ n < 64, spriteColor lastCell n (252 : Fin 256) (232 : Fin 240) = none :=
  ⟨by decide, ⟨_, rfl, rfl⟩, by decide⟩

theorem witness_StepKeepsTheInvariant : ∃ s t : State, s.Inv ∧ step s = .next t ∧ t.vram ≠ s.vram :=
  ⟨{ zero with arrivals := [.request 0x12007FF] }, _, { zero_inv with }, rfl, by decide⟩

theorem witness_ConstructionSetsTheFixedElements :
    zeroInit.image.length = 16384 ∧ ∃ c : Construction, c.image = zeroInit.image ∧ c.params.wf = true ∧
      Memory.wf vramSize c.vram ∧ Memory.wf oamSize c.oam ∧ Memory.wf c.params.wramSize c.wram ∧ c.vram ≠ [] :=
  ⟨List.length_replicate, { zeroInit with params := params, vram := [(0x3FFF, 1)], oam := [(255, 1)], wram := [(0x7FF, 1)] },
    rfl, by decide, by decide, by decide, by decide, by decide⟩

theorem witness_WrongImageSizeStopsTheBlock :
    ∃ c d : Construction, c.image.length ≠ 16384 ∧ d.image.length ≠ 16384 ∧ d.image.length = 16383 :=
  ⟨{ zeroInit with image := [] }, { zeroInit with image := List.replicate 16383 0 },
    by decide, by simp only [List.length_replicate]; decide, List.length_replicate⟩

theorem witness_EachElementHasItsWriters_registers :
    (∃ s t : State, exec (.wrPpuctrl 1) s = .next t ∧ t.ppuctrl ≠ s.ppuctrl) ∧
    (∃ s t : State, exec (.wrPpuaddr 1) s = .next t ∧ t.vAddr ≠ s.vAddr ∧ t.w ≠ s.w) ∧
    (∃ s t : State, exec (.wrPpuaddr 1) s = .next t ∧ t.vOvf ≠ s.vOvf) ∧
    (∃ s t : State, exec .rdPpudata s = .next t ∧ t.rdbuf ≠ s.rdbuf ∧ t.vAddr ≠ s.vAddr) ∧
    (∃ s t : State, exec (.wrPpudata 1) s = .next t ∧ t.vram ≠ s.vram ∧ t.vAddr ≠ s.vAddr) :=
  ⟨⟨zero, _, rfl, by decide⟩, ⟨zero, _, rfl, by decide, by decide⟩, ⟨{ zero with vOvf := true }, _, rfl, by decide⟩,
    ⟨{ zero with rdbuf := 1 }, _, rfl, by decide, by decide⟩, ⟨zero, _, rfl, by decide, by decide⟩⟩

theorem witness_EachElementHasItsWriters_rest :
    (∃ s t : State, exec (.wrOamdma 0) s = .next t ∧ t.oam ≠ s.oam) ∧
    (∃ s t : State, exec .tick s = .next t ∧ t.tick ≠ s.tick) ∧
    (∃ s t : State, exec (.setInput 1) s = .next t ∧ t.joyState ≠ s.joyState) ∧
    (∃ s t : State, exec (.wrJoystrobe 1) s = .next t ∧ t.joyStrobe ≠ s.joyStrobe ∧ t.joyIdx ≠ s.joyIdx) ∧
    (∃ s t : State, exec .rdJoy s = .next t ∧ t.joyIdx ≠ s.joyIdx) ∧
    (∃ s t : State, exec .wireCpu s = .next t ∧ t.wired ≠ s.wired) ∧
    (∃ s t : State, exec .render s = .next t ∧ t.fbValid ≠ s.fbValid) ∧
    (∃ s t : State, exec .render s = .next t ∧ t.freeCount ≠ s.freeCount) ∧
    (∃ s t : State, exec .reserved6 s = .next t ∧ t.refused ≠ s.refused) ∧
    (∃ s t : State, exec .reserved7 s = .next t ∧ t.refused ≠ s.refused) := by
  refine ⟨?_, ⟨{ zero with wired := true }, _, rfl, by decide⟩, ⟨zero, _, rfl, by decide⟩,
    ⟨{ zero with joyIdx := 1 }, _, rfl, by decide, by decide⟩, ⟨zero, _, rfl, by decide⟩, ⟨zero, _, rfl, by decide⟩,
    ⟨zero, _, rfl, by decide⟩, ⟨{ zero with ppuctrl := 0x20 }, _, rfl, by decide⟩, ⟨zero, _, rfl, by decide⟩,
    ⟨zero, _, rfl, by decide⟩⟩
  refine ⟨{ zero with wram := [(255, 1)] }, _, rfl, fun h => ?_⟩
  have h255 := congrArg (Memory.read · 255) h
  simp only [dmaCopy_read] at h255
  exact absurd h255 (by decide)

theorem witness_StoresTouchOnlyTheirBytes :
    (∃ s t : State, exec (.wrPpudata 1) s = .next t ∧ vramByte t 0x3FFF ≠ vramByte s 0x3FFF) ∧
    ∃ s t : State, exec (.wrOamdma 0) s = .next t ∧ oamByte t 255 ≠ oamByte s 255 := by
  refine ⟨⟨{ zero with vAddr := 0x3FFF }, _, rfl, by decide⟩, { zero with wram := [(255, 1)] }, _, rfl, ?_⟩
  unfold oamByte
  simp only [dmaCopy_read]
  decide

theorem witness_FaultsLeaveEverythingElse :
    ∃ s t : State, Instr.tick ≠ .render ∧ exec .tick s = .next t ∧ s.fault = none ∧ t.fault = some .notWired :=
  ⟨zero, _, nofun, rfl, rfl, rfl⟩

/-- V-B6: the recorded address and byte of a background fault. -/
theorem test_background_fault :
    backgroundFault { zero with vram := [(0x3F00, 0x40)] } = some (.colorIndexOutOfRange 0x3F00 0x40) := by
  rw [backgroundFault_eq_search]
  exact findSome?_first backgroundOrder_sorted (k := ⟨0, 0, 0, 0⟩) ((mem_backgroundOrder _).mpr (by decide)) (by decide)
    fun a _ h => absurd h (Nat.not_lt_zero _)

/-- V-S9's record: the sprite number, here of the one sprite at (0, 255) that is opaque past the edge. -/
theorem test_sprite_fault :
    spriteFault { rs with oam := [(1, 3), (3, 255)], params := { params with spriteEdge := .fault } } =
      some (.spriteOffScreen 0) := by
  rw [spriteFault_eq_search _ (by decide)]
  refine findSome?_first spriteOrder_sorted (k := ⟨0, 0, 1⟩) ((mem_spriteOrder _).mpr (by decide)) (by decide) ?_
  rintro ⟨n, r, c⟩ _ h
  obtain ⟨rfl, rfl, rfl⟩ : n = 0 ∧ r = 0 ∧ c = 0 := by simp only [SpriteStep.place] at h; omega
  decide

/-- A RENDER with a first fault records it. -/
theorem render_records {s : State} {f : FaultRecord} (h : renderFault s = some f) :
    ∃ t, exec .render s = .next t ∧ t.fault = some f :=
  ⟨_, by simp only [exec, execRender, h]; rfl, rfl⟩

theorem witness_FaultRecordsHoldTheirInfo :
    (∃ s : State, s.vOvf = true) ∧ (∃ k < 256, inWram zero ((8 : Byte).toNat * 256 + k) = false) ∧
    zero.wired = false ∧ (∃ c : Construction, c.image.length ≠ 16384) ∧
    (∃ s t : State, exec .render s = .next t ∧ s.fault = none ∧ t.fault = some .sprite8x16Unimplemented) ∧
    (∃ s t : State, exec .render s = .next t ∧ s.fault = none ∧ t.fault = some (.colorIndexOutOfRange 0x3F00 0x40)) ∧
    ∃ s t : State, exec .render s = .next t ∧ s.fault = none ∧ t.fault = some (.spriteOffScreen 0) := by
  refine ⟨⟨{ zero with vOvf := true }, rfl⟩, ⟨0, by decide, by decide⟩, rfl, ⟨{ zeroInit with image := [] }, by decide⟩,
    ⟨{ zero with ppuctrl := 0x20 }, _, rfl, rfl, rfl⟩, ?_, ?_⟩
  · obtain ⟨t, ht, hf⟩ := render_records (by rw [renderFault, test_background_fault]; rfl)
    exact ⟨_, t, ht, rfl, hf⟩
  · obtain ⟨t, ht, hf⟩ := render_records (f := .spriteOffScreen 0)
      (s := { rs with oam := [(1, 3), (3, 255)], params := { params with spriteEdge := .fault } })
      (by rw [renderFault, test_sprite_fault]; decide)
    exact ⟨_, t, ht, rfl, hf⟩

theorem witness_IdempotentRequests :
    ∃ s t : State, Memory.wf oamSize s.oam ∧ exec (.wrOamdma 2) s = .next t ∧
      Instr.wrOamdma 2 ∈ [Instr.rdPpustatus, .wrPpuctrl 2, .wrPpumask 2, .wrOamaddr 2, .wrOamdata 2, .wrOamdma 2,
        .wrJoystrobe 2] :=
  ⟨{ zero with oam := [(255, 1)] }, _, by decide, rfl, by decide⟩

end Sys2Proof.Tests
end

/-! ## Proofs: the step of a running block -/

namespace Sys2Proof.Machine

/-- The sticky gate (R246) is open and the head of the stream is a request (R60): it is what is fetched, decoded. -/
theorem fetch_of_running_request {s : State} {q : ReqWord} {rest : List Arrival} (hrun : s.running)
    (harr : s.arrivals = .request q :: rest) :
    fetch s = .request (decode s.params q) (takeRequest q rest s) := by
  obtain ⟨hfault, hrefused⟩ := hrun
  simp [fetch, hfault, hrefused, harr]

/-- A running block that takes a request runs it whole, in the state that holds its word (R11). -/
theorem step_of_running_request {s : State} {q : ReqWord} {rest : List Arrival} (hrun : s.running)
    (harr : s.arrivals = .request q :: rest) :
    step s = exec (decode s.params q) (takeRequest q rest s) := by
  rw [step, fetch_of_running_request hrun harr]

/-- Settles O8: the gate lets a running block fetch the head of the stream, and the step is what was fetched;
`takeRequest` is by definition the state the statement writes out. -/
theorem stepRunsTheDecodedRequest : Obligations.StepRunsTheDecodedRequest := by
  intro s q rest hrun harr
  exact step_of_running_request hrun harr

end Sys2Proof.Machine

/-! ## Proofs: the state -/

namespace Sys2Proof.Machine

/-! ### What a request can do, said once -/

/-- What request `i` can have done to the elements of state `s` when it ends, up to what it records and puts out
(`SameButOutputs`): R20's table read by request. -/
inductive Effect (s : State) : Instr → State → Prop where
  | unchanged (i : Instr) : Effect s i s
  | control (d : Byte) : Effect s (.wrPpuctrl d) { s with ppuctrl := d }
  | addressHigh (d : Byte) (hw : s.w = false) : Effect s (.wrPpuaddr d) (addressHigh d s)
  | addressLow (d : Byte) (hw : s.w = true) : Effect s (.wrPpuaddr d) (addressLow d s)
  | dataWrite (d : Byte) (hovf : s.vOvf = false) :
      Effect s (.wrPpudata d) (advance { s with vram := s.vram.write s.vAddr.toNat d })
  | dataRead (hovf : s.vOvf = false) :
      Effect s .rdPpudata (advance { s with rdbuf := vramByte s s.vAddr.toNat })
  | dma (d : Byte) (hin : dmaInRange s d = true) : Effect s (.wrOamdma d) { s with oam := dmaCopy s d }
  | strobe (d : Byte) : Effect s (.wrJoystrobe d) (strobe d s)
  | joyRead : Effect s .rdJoy (joyAdvance s)
  | tick (hwired : s.wired = true) : Effect s .tick (tickCount s)
  | rendered : Effect s .render { s with fbi := renderFrame s, fbValid := true }
  | spoiled : Effect s .render (spoilFrame s)
  | input (d : Byte) : Effect s (.setInput d) { s with joyState := d }
  | wire : Effect s .wireCpu { s with wired := true }
  | refused6 : Effect s .reserved6 { s with refused := true }
  | refused7 : Effect s .reserved7 { s with refused := true }

/-- `t` is `u` but for the fault record and the outputs: the response and the trace (R83, R240, R245). -/
def SameButOutputs (u t : State) : Prop :=
  t = { u with fault := t.fault, response := t.response, trace := t.trace }

theorem sameButOutputs_of_finish {u t : State} (h : finish u = .next t) : SameButOutputs u t := by
  rw [finish_next.mp h]; rfl

theorem sameButOutputs_of_answer {b : Byte} {u t : State} (h : answer b u = .next t) : SameButOutputs u t := by
  rw [answer_next.mp h]; rfl

theorem sameButOutputs_of_answerFrame {u t : State} (h : answerFrame u = .next t) : SameButOutputs u t := by
  rw [answerFrame_next.mp h]; rfl

theorem sameButOutputs_of_raise {f : FaultRecord} {u t : State} (h : raise f u = .next t) : SameButOutputs u t := by
  rw [raise_next.mp h]; rfl

theorem sameButOutputs_of_refuse {u t : State} (h : refuse u = .next t) :
    SameButOutputs { u with refused := true } t := by
  rw [refuse_next.mp h]; rfl

/-- An event put out before the request ends is one more output. -/
theorem sameButOutputs_of_finish_emit {e : Event} {u t : State} (h : finish (emit e u) = .next t) :
    SameButOutputs u t := by
  rw [finish_next.mp h]; rfl

/-- Everything a request can do: one of the effects its row of R20's table names, and its outputs. -/
theorem exec_effect {i : Instr} {s t : State} (h : exec i s = .next t) :
    ∃ u, Effect s i u ∧ SameButOutputs u t := by
  cases i with
  | rdPpustatus => exact ⟨_, .unchanged _, sameButOutputs_of_answer h⟩
  | rdPpudata =>
    simp only [exec, execRdPpudata] at h
    split at h
    · exact ⟨_, .unchanged _, sameButOutputs_of_raise h⟩
    · next hovf => exact ⟨_, .dataRead (by simpa using hovf), sameButOutputs_of_answer h⟩
  | rdJoy => exact ⟨_, .joyRead, sameButOutputs_of_answer h⟩
  | rdUnmapped a => exact ⟨_, .unchanged _, sameButOutputs_of_raise h⟩
  | wrPpuctrl d => exact ⟨_, .control d, sameButOutputs_of_finish h⟩
  | wrPpumask d => exact ⟨_, .unchanged _, sameButOutputs_of_finish h⟩
  | wrOamaddr d => exact ⟨_, .unchanged _, sameButOutputs_of_finish h⟩
  | wrOamdata d => exact ⟨_, .unchanged _, sameButOutputs_of_finish h⟩
  | wrPpuscroll d =>
    simp only [exec, execWrPpuscroll] at h
    split at h
    · exact ⟨_, .unchanged _, sameButOutputs_of_finish_emit h⟩
    · exact ⟨_, .unchanged _, sameButOutputs_of_finish h⟩
  | wrPpuaddr d =>
    simp only [exec, execWrPpuaddr] at h
    split at h
    · next hw => exact ⟨_, .addressLow d hw, sameButOutputs_of_finish h⟩
    · next hw => exact ⟨_, .addressHigh d (by simpa using hw), sameButOutputs_of_finish h⟩
  | wrPpudata d =>
    simp only [exec, execWrPpudata] at h
    split at h
    · exact ⟨_, .unchanged _, sameButOutputs_of_raise h⟩
    · next hovf => exact ⟨_, .dataWrite d (by simpa using hovf), sameButOutputs_of_finish h⟩
  | wrOamdma d =>
    simp only [exec, execWrOamdma] at h
    split at h
    · next hin => exact ⟨_, .dma d hin, sameButOutputs_of_finish h⟩
    · exact ⟨_, .unchanged _, sameButOutputs_of_raise h⟩
  | wrJoystrobe d => exact ⟨_, .strobe d, sameButOutputs_of_finish h⟩
  | wrAudioA d => exact ⟨_, .unchanged _, sameButOutputs_of_finish_emit h⟩
  | wrAudioB d => exact ⟨_, .unchanged _, sameButOutputs_of_finish_emit h⟩
  | wrUnmapped a d => exact ⟨_, .unchanged _, sameButOutputs_of_raise h⟩
  | tick =>
    simp only [exec, execTick] at h
    split at h
    · next hwired => exact ⟨_, .tick hwired, sameButOutputs_of_finish h⟩
    · exact ⟨_, .unchanged _, sameButOutputs_of_raise h⟩
  | render =>
    simp only [exec, execRender] at h
    split at h
    · exact ⟨_, .spoiled, sameButOutputs_of_raise h⟩
    · exact ⟨_, .rendered, sameButOutputs_of_answerFrame h⟩
  | setInput d => exact ⟨_, .input d, sameButOutputs_of_finish h⟩
  | wireCpu => exact ⟨_, .wire, sameButOutputs_of_finish h⟩
  | reserved6 => exact ⟨_, .refused6, sameButOutputs_of_refuse h⟩
  | reserved7 => exact ⟨_, .refused7, sameButOutputs_of_refuse h⟩

/-! ### The invariant is kept -/

/-- What a request records and puts out is no part of the invariant. -/
theorem SameButOutputs.inv {u t : State} (h : SameButOutputs u t) (hu : u.Inv) : t.Inv := by
  rw [h]
  exact { hu with }

theorem strobe_inv {s : State} (hs : s.Inv) (d : Byte) : (strobe d s).Inv where
  __ := hs
  joyRange := by
    rw [strobe_joyIdx]
    split
    · decide
    · exact hs.joyRange
  joyHeld := fun hd => by
    rw [strobe_joyStrobe] at hd
    rw [strobe_joyIdx, if_pos hd]

theorem joyAdvance_inv {s : State} (hs : s.Inv) : (joyAdvance s).Inv := by
  unfold joyAdvance
  split
  · exact hs
  · split
    · exact hs
    · next hle hfree =>
      have hrange : (s.joyIdx + 1).toNat ≤ 8 := by bv_omega
      exact { hs with joyRange := hrange, joyHeld := fun hheld => absurd hheld hfree }

theorem tickCount_inv {s : State} (hs : s.Inv) : (tickCount s).Inv := by
  have htick := hs.tickRange
  unfold tickCount
  split
  · have hzero : ({ s with tick := 0 } : State).Inv := { hs with tickRange := Nat.zero_lt_of_lt htick }
    split
    · exact { hzero with }
    · exact hzero
  · exact { hs with tickRange := show s.tick + 1 < s.params.framePeriod by omega }

theorem addressLow_inv {s : State} (hs : s.Inv) (d : Byte) : (addressLow d s).Inv := by
  unfold addressLow
  split <;> exact { hs with }

/-- Every effect of a request keeps the invariant: the two memories it stores to keep their canonical form, and the two
counters their ranges. -/
theorem Effect.inv {s u : State} {i : Instr} (h : Effect s i u) (hs : s.Inv) : u.Inv := by
  cases h with
  | unchanged => exact hs
  | dataWrite d => exact { hs with vramWf := Memory.wf_write hs.vramWf s.vAddr.isLt d }
  | dma d => exact { hs with oamWf := dmaCopy_wf s d hs.oamWf }
  | strobe d => exact strobe_inv hs d
  | joyRead => exact joyAdvance_inv hs
  | tick => exact tickCount_inv hs
  | addressLow d => exact addressLow_inv hs d
  | control | addressHigh | dataRead | rendered | spoiled | input | wire | refused6 | refused7 => exact { hs with }

theorem exec_inv {i : Instr} {s t : State} (h : exec i s = .next t) (hs : s.Inv) : t.Inv := by
  obtain ⟨u, heffect, hout⟩ := exec_effect h
  exact hout.inv (heffect.inv hs)

theorem storeWram_inv {s : State} (hs : s.Inv) (a : BusAddr) (v : Byte) : (storeWram a v s).Inv := by
  have hwram := storeWram_wf a v s hs.wramWf
  unfold storeWram at hwram ⊢
  split
  · next hin => exact { hs with wramWf := by simpa [hin] using hwram }
  · exact hs

/-- Settles O46: along the ways a step goes; taking an arrival off the stream touches nothing the invariant speaks of. -/
theorem stepKeepsTheInvariant : Obligations.StepKeepsTheInvariant := by
  intro s t hs hstep
  obtain ⟨-, -, ⟨-, rfl⟩ | ⟨a, v, rest, -, rfl⟩ | ⟨q, rest, -, hexec⟩⟩ := step_next hstep
  · exact hs
  · have htaken : State.Inv { s with arrivals := rest } := { hs with }
    exact storeWram_inv htaken a v
  · have htaken : (takeRequest q rest s).Inv := { hs with }
    exact exec_inv hexec htaken

/-! ### Which element each request writes -/

/-- Settles O50: by the effects of a request, none of which writes an element outside its own row of R20's table. -/
theorem eachElementHasItsWriters : Obligations.EachElementHasItsWriters := by
  intro i s t h
  obtain ⟨u, heffect, hout⟩ := exec_effect h
  rw [hout]
  cases heffect <;> simp

/-- Settles O51: of the effects of a request only two store a byte, the data write's at the cursor and the DMA's copy. -/
theorem storesTouchOnlyTheirBytes : Obligations.StoresTouchOnlyTheirBytes := by
  intro i s t h a
  obtain ⟨u, heffect, hout⟩ := exec_effect h
  rw [hout]
  cases heffect with
  | dataWrite d hovf =>
    have hvram : a ≠ s.vAddr.toNat → (s.vram.write s.vAddr.toNat d).read a = s.vram.read a :=
      Memory.read_write_other _ _ _ _
    simpa [vramByte, oamByte, romByte, wramByte, hovf] using not_imp_comm.mp hvram
  | dma d hin =>
    have hoam : ¬ a < 256 → (dmaCopy s d).read a = s.oam.read a := fun ha => by rw [dmaCopy_read, if_neg ha]
    simpa [vramByte, oamByte, romByte, wramByte, hin] using not_imp_comm.mp hoam
  | _ => simp [vramByte, oamByte, romByte, wramByte]

/-! ### The data port -/

/-- A data write with the cursor in range (R105): it completes, and the read buffer stands. -/
theorem exec_wrPpudata_inRange (d : Byte) {s : State} (hovf : s.vOvf = false) :
    exec (.wrPpudata d) s = finish (advance { s with vram := s.vram.write s.vAddr.toNat d }) := by
  simp [exec, execWrPpudata, hovf]

/-- A data read with the cursor in range (R140): it completes and returns the buffered byte. -/
theorem exec_rdPpudata_inRange {s : State} (hovf : s.vOvf = false) :
    exec .rdPpudata s = answer s.rdbuf (advance { s with rdbuf := vramByte s s.vAddr.toNat }) := by
  simp [exec, execRdPpudata, hovf]

/-- An advance that stays in the 14-bit space leaves the overflow bit (R107). -/
theorem advance_vOvf_inRange {s : State} (h : s.vAddr.toNat + cursorStep s ≤ 0x3FFF) :
    (advance s).vOvf = s.vOvf := by
  rw [advance_vOvf, if_neg (by omega)]

/-- Settles O26: the write advances the cursor within range and leaves the buffer, which the read then returns. -/
theorem readAfterDataWriteIsStale : Obligations.ReadAfterDataWriteIsStale := by
  intro d s hovf hrange
  have hovf' : (advance { s with vram := s.vram.write s.vAddr.toNat d }).vOvf = false :=
    (advance_vOvf_inRange hrange).trans hovf
  exact ⟨_, _, exec_wrPpudata_inRange d hovf, exec_rdPpudata_inRange hovf', rfl⟩

/-! ### A background that raises nothing -/

/-- A lookup raises nothing under COLOR_POLICY = mask6, nor where its palette byte is at most 63 (R186). -/
theorem paletteFault_eq_none {s : State} {g : Nat} {i : PixelIndex}
    (h : s.params.colorPolicy = .mask6 ∨ (vramByte s (paletteAddr g i)).toNat ≤ 63) : paletteFault s g i = none := by
  rw [← Option.not_isSome_iff_eq_none, paletteFault_isSome]
  rintro ⟨hbyte, hpolicy⟩
  rcases h with h | h
  · simp [h] at hpolicy
  · omega

/-- The background pass raises nothing under COLOR_POLICY = mask6, nor where the sixteen background palette bytes are at
most 63 (R183, R186). -/
theorem backgroundFault_eq_none {s : State}
    (h : s.params.colorPolicy = .mask6 ∨ ∀ k < 16, (vramByte s (0x3F00 + k)).toNat ≤ 63) :
    backgroundFault s = none := by
  rw [backgroundFault_eq_search, List.findSome?_eq_none_iff]
  intro k _
  refine paletteFault_eq_none (h.imp_right fun hbytes => ?_)
  have hgroup := attrGroup_lt s k.tx k.ty
  have hindex := (cellPixel s k.tx k.ty k.r k.c).isLt
  rw [paletteAddr, Nat.add_assoc]
  exact hbytes _ (by omega)

/-- RENDER records its first fault, if it has one, and leaves the frame unsaid (R210, R247). -/
theorem exec_render_fault {s : State} {f : FaultRecord} (h : renderFault s = some f) :
    exec .render s = raise f (spoilFrame s) := by
  simp [exec, execRender, h]

/-- Settles O44: the background raises nothing, so the first fault of RENDER is the sprite pass's, which comes before any
byte of OAM is read (R215). -/
theorem tallSpritesFault : Obligations.TallSpritesFault := by
  intro s htall hpalette
  have hsprite : spriteFault s = some .sprite8x16Unimplemented := if_pos htall
  have hfault : renderFault s = some .sprite8x16Unimplemented := by
    rw [renderFault, backgroundFault_eq_none hpalette, hsprite, Option.none_or]
  exact ⟨_, exec_render_fault hfault, rfl, rfl⟩

/-! ### Construction and reset -/

/-- From an image of the expected size the ROM is the memory of the image (R270). -/
theorem construct_ptrom {c : Construction} (h : c.image.length = ptRomSize) :
    (construct c).ptrom = Memory.ofBytes c.image := if_pos h

theorem construct_fault {c : Construction} (h : c.image.length = ptRomSize) : (construct c).fault = none := if_pos h

/-- Legal parameters have a frame of at least one tick (R7). -/
theorem framePeriod_pos_of_wf {p : Params} (h : p.wf = true) : 0 < p.framePeriod := by
  simp only [Params.wf, Bool.and_eq_true, decide_eq_true_eq, and_assoc] at h
  exact h.1

/-- Construction from legal inputs meets the invariant (R46, R48). -/
theorem construct_inv {c : Construction} (himage : c.image.length = ptRomSize) (hparams : c.params.wf = true)
    (hvram : Memory.wf vramSize c.vram) (hoam : Memory.wf oamSize c.oam)
    (hwram : Memory.wf c.params.wramSize c.wram) : (construct c).Inv where
  paramsWf := hparams
  tickRange := framePeriod_pos_of_wf hparams
  joyRange := Nat.zero_le _
  joyHeld := fun _ => rfl
  vramWf := hvram
  oamWf := hoam
  ptromWf := by
    rw [construct_ptrom himage, ← himage]
    exact Memory.wf_ofBytes c.image
  wramWf := hwram

/-- Settles O48: each element but the ROM and the fault record is the construction's own field, and the image's size
decides those two. -/
theorem constructionSetsTheFixedElements : Obligations.ConstructionSetsTheFixedElements := by
  intro c himage
  refine ⟨⟨rfl, rfl, rfl, rfl, rfl, rfl, rfl, construct_fault himage, rfl⟩, ⟨rfl, rfl, rfl, rfl, rfl, rfl, rfl⟩,
    ⟨rfl, rfl, rfl, rfl, rfl⟩, fun k hk => ?_, construct_inv himage⟩
  rw [construct_ptrom himage, Memory.read_ofBytes]
  exact List.getD_eq_getElem _ _ hk

/-- The parameters at reset are legal, whatever the free ones are (R7, R72). -/
theorem config_params_wf : Config.params.wf = true := by
  simp [Params.wf, Config.params, Params.audioAddrOk, Params.mirrored, registerAddrs]

/-- Settles O47: the state after reset is the construction of ZERO_INIT, whose inputs are legal. -/
theorem resetMeetsTheInvariant : Obligations.ResetMeetsTheInvariant := by
  have hinv : (construct zeroInit).Inv :=
    construct_inv List.length_replicate config_params_wf (Memory.wf_empty _) (Memory.wf_empty _) (Memory.wf_empty _)
  exact ⟨construct_zeroInit ▸ hinv, rfl, rfl⟩

end Sys2Proof.Machine

/-! ## Proofs: memory -/

namespace Sys2Proof.Machine

/-! ### What arrives -/

/-- A running block that nothing has reached stays as it is (R255; log entry 2). -/
theorem step_of_running_idle {s : State} (hrun : s.running) (harr : s.arrivals = []) : step s = .next s := by
  obtain ⟨hfault, hrefused⟩ := hrun
  simp [step, fetch, hfault, hrefused, harr]

/-- A running block whose stream begins with a store of the processor side takes the store as its step (R55; log
entry 7). -/
theorem step_of_running_store {s : State} {a : BusAddr} {v : Byte} {rest : List Arrival} (hrun : s.running)
    (harr : s.arrivals = .wramStore a v :: rest) :
    step s = .next (storeWram a v { s with arrivals := rest }) := by
  obtain ⟨hfault, hrefused⟩ := hrun
  simp [step, fetch, hfault, hrefused, harr]

/-- A store changes work RAM and nothing of the chip. -/
theorem storeWram_frame (a : BusAddr) (v : Byte) (s : State) :
    storeWram a v s = { s with wram := (storeWram a v s).wram } := by
  unfold storeWram
  split <;> rfl

/-- Two addresses of the segment name the same byte of work RAM only when they are the same (R55). -/
theorem wramOffset_inj {s : State} {a b : Nat} (ha : inWram s a = true) (hb : inWram s b = true) :
    b - s.params.wramBase.toNat = a - s.params.wramBase.toNat ↔ b = a := by
  rw [inWram_iff] at ha hb
  omega

/-- A byte of the segment after a store: the stored one at the store's address, and elsewhere the byte before; a store
outside the segment meets no byte of it (R55). -/
theorem wramByte_storeWram (a : BusAddr) (v : Byte) {s : State} {b : Nat} (hb : inWram s b = true) :
    wramByte (storeWram a v s) b = if b = a.toNat then v else wramByte s b := by
  rw [wramByte, storeWram_wram, storeWram_params]
  split
  · next ha => simp only [Memory.read_write, wramOffset_inj ha hb, wramByte]
  · next ha =>
    have hne : b ≠ a.toNat := fun hba => ha (hba ▸ hb)
    rw [if_neg hne, wramByte]

/-- Settles O10: the step of an empty stream is the same state, and the step of a store is `storeWram`, whose frame and
bytes are known. -/
theorem environmentChangesOnlyWorkRam : Obligations.EnvironmentChangesOnlyWorkRam := by
  intro s hrun
  refine ⟨step_of_running_idle hrun, fun a v rest harr => ?_⟩
  exact ⟨_, step_of_running_store hrun harr, storeWram_frame a v _, fun b hb => wramByte_storeWram a v hb⟩

/-! ### Requests taken twice -/

/-- Copying a page over its own copy gives the copy: the first 256 bytes come from work RAM again, and a canonical OAM is
told by its bytes (R109). -/
theorem dmaCopy_of_copied {s t : State} {page : Byte} (hwf : Memory.wf oamSize s.oam) (hoam : t.oam = dmaCopy s page)
    (hwram : t.wram = s.wram) (hparams : t.params = s.params) : dmaCopy t page = dmaCopy s page := by
  have hcopied : Memory.wf oamSize (dmaCopy s page) := dmaCopy_wf s page hwf
  refine Memory.ext_read (dmaCopy_wf t page (hoam ▸ hcopied)) hcopied fun a => ?_
  rw [dmaCopy_read, dmaCopy_read, hoam, dmaCopy_read, wramByte, wramByte, hwram, hparams]
  split <;> rfl

/-- A DMA whose source lies in the segment copies the page (R109). -/
theorem exec_wrOamdma_inRange {d : Byte} {s : State} (hin : dmaInRange s d = true) :
    exec (.wrOamdma d) s = finish { s with oam := dmaCopy s d } := if_pos hin

/-- A DMA whose source leaves the segment raises its fault and copies nothing (R109). -/
theorem exec_wrOamdma_outOfRange {d : Byte} {s : State} (hout : ¬ dmaInRange s d = true) :
    exec (.wrOamdma d) s = raise (.dmaSourceOutOfRange d) s := if_neg hout

/-- The range of a DMA is a matter of the parameters alone (R55, R109). -/
theorem dmaInRange_congr {s t : State} (hparams : t.params = s.params) (d : Byte) :
    dmaInRange t d = dmaInRange s d := by
  simp only [dmaInRange, inWram, hparams]

/-- A DMA taken again copies the same page over its copy, or raises the same fault (R58). -/
theorem exec_wrOamdma_twice {d : Byte} {s t : State} (hwf : Memory.wf oamSize s.oam)
    (h : exec (.wrOamdma d) s = .next t) : exec (.wrOamdma d) t = .next t := by
  by_cases hin : dmaInRange s d = true
  · rw [exec_wrOamdma_inRange hin, finish_next] at h
    have hparams : t.params = s.params := by rw [h]
    have hcopy : dmaCopy t d = t.oam := by
      rw [dmaCopy_of_copied hwf (by rw [h]) (by rw [h]) hparams, h]
    rw [exec_wrOamdma_inRange ((dmaInRange_congr hparams d).trans hin), finish_next, hcopy, h]
  · rw [exec_wrOamdma_outOfRange hin, raise_next] at h
    have hparams : t.params = s.params := by rw [h]
    have hout : ¬ dmaInRange t d = true := by rwa [dmaInRange_congr hparams]
    rw [exec_wrOamdma_outOfRange hout, raise_next, h]

/-- The same strobe byte again finds its mode set and its index reset or held (R110). -/
theorem strobe_strobe (d : Byte) (r : Response) (s : State) :
    strobe d { strobe d s with response := r } = { strobe d s with response := r } := by
  unfold strobe
  split <;> rfl

/-- A controller strobe taken again changes nothing (R58). -/
theorem exec_wrJoystrobe_twice {d : Byte} {s t : State} (h : exec (.wrJoystrobe d) s = .next t) :
    exec (.wrJoystrobe d) t = .next t := by
  have ht : t = { strobe d s with response := .nothing } := finish_next.mp h
  exact finish_next.mpr (by rw [ht, strobe_strobe])

/-- Settles O54: the read and the discarded writes touch only the response, and the control write stores a byte already
there; the strobe and the DMA have their own lemmas. -/
theorem idempotentRequests : Obligations.IdempotentRequests := by
  intro d s t hwf i hi h
  simp only [List.mem_cons, List.not_mem_nil, or_false] at hi
  obtain rfl | rfl | rfl | rfl | rfl | rfl | rfl := hi
  · rw [answer_next.mp h]; rfl
  iterate 4 · rw [finish_next.mp h]; rfl
  · exact exec_wrOamdma_twice hwf h
  · exact exec_wrJoystrobe_twice h

end Sys2Proof.Machine

/-! ## Proofs: encoding -/

namespace Sys2Proof

/-! ### The decoded address -/

/-- When an address is one that the mirrors answer (R73). -/
theorem mirrored_iff {p : Params} {a : BusAddr} :
    p.mirrored a = true ↔ p.mirrorPpuRegs = true ∧ 0x2008 ≤ a.toNat ∧ a.toNat ≤ 0x3FFF := by
  simp [Params.mirrored, and_assoc]

/-- `a & 7` keeps the low three bits. -/
theorem toNat_and_seven (a : BusAddr) : (a &&& 7).toNat = a.toNat % 8 := by
  rw [BitVec.toNat_and]
  exact Nat.and_two_pow_sub_one_eq_mod a.toNat 3

/-- A mirror folds onto the register its low three bits name (R73). -/
theorem decodedAddr_mirrored {p : Params} {a : BusAddr} (h : p.mirrored a = true) :
    decodedAddr p a = BitVec.ofNat 16 (0x2000 + a.toNat % 8) := by
  rw [decodedAddr, if_pos h]
  apply BitVec.eq_of_toNat_eq
  rw [BitVec.toNat_add, toNat_and_seven, BitVec.toNat_ofNat]
  rfl

theorem toNat_decodedAddr_mirrored {p : Params} {a : BusAddr} (h : p.mirrored a = true) :
    (decodedAddr p a).toNat = 0x2000 + a.toNat % 8 := by
  rw [decodedAddr_mirrored h, BitVec.toNat_ofNat]
  omega

/-- The address looked up in R72's table is never a mirror that answers: a mirror has been folded (R73). -/
theorem mirrored_decodedAddr (p : Params) (a : BusAddr) : p.mirrored (decodedAddr p a) = false := by
  cases h : p.mirrored a with
  | false => rw [decodedAddr_not_mirrored h, h]
  | true => exact mirrored_outside p _ (by rw [toNat_decodedAddr_mirrored h]; omega)

@[simp] theorem decodedAddr_decodedAddr (p : Params) (a : BusAddr) :
    decodedAddr p (decodedAddr p a) = decodedAddr p a :=
  decodedAddr_not_mirrored (mirrored_decodedAddr p a)

/-- An address that is neither one of the eight registers nor a mirror of theirs is looked up for itself alone (R73). -/
theorem decodedAddr_eq_iff {p : Params} {a r : BusAddr} (hmirror : p.mirrored r = false) (hreg : r.toNat / 8 ≠ 0x400) :
    decodedAddr p a = r ↔ a = r := by
  cases h : p.mirrored a with
  | false => rw [decodedAddr_not_mirrored h]
  | true =>
    have hfold := toNat_decodedAddr_mirrored h
    refine iff_of_false (fun e => ?_) (fun e => ?_)
    · rw [e] at hfold; omega
    · rw [e, hmirror] at h; cases h

/-! ### The kind of request that the op selects (R71) -/

theorem decode_read (p : Params) (a : BusAddr) (d : Byte) :
    decode p (requestWord 0 a d) = readRow (decodedAddr p a) := decode_requestWord p 0 a d

theorem decode_write (p : Params) (a : BusAddr) (d : Byte) :
    decode p (requestWord 1 a d) = writeRow p (decodedAddr p a) d := decode_requestWord p 1 a d

theorem decode_tick (p : Params) (a : BusAddr) (d : Byte) : decode p (requestWord 2 a d) = .tick :=
  decode_requestWord p 2 a d

theorem decode_render (p : Params) (a : BusAddr) (d : Byte) : decode p (requestWord 3 a d) = .render :=
  decode_requestWord p 3 a d

theorem decode_setInput (p : Params) (a : BusAddr) (d : Byte) : decode p (requestWord 4 a d) = .setInput d :=
  decode_requestWord p 4 a d

theorem decode_wireCpu (p : Params) (a : BusAddr) (d : Byte) : decode p (requestWord 5 a d) = .wireCpu :=
  decode_requestWord p 5 a d

theorem decode_reserved6 (p : Params) (a : BusAddr) (d : Byte) : decode p (requestWord 6 a d) = .reserved6 :=
  decode_requestWord p 6 a d

theorem decode_reserved7 (p : Params) (a : BusAddr) (d : Byte) : decode p (requestWord 7 a d) = .reserved7 :=
  decode_requestWord p 7 a d

/-! ### The two columns of R72's table -/

theorem decode_read_exact {p : Params} {a : BusAddr} (h : p.mirrored a = false) (d : Byte) :
    decode p (requestWord 0 a d) = readRow a := by
  rw [decode_read, decodedAddr_not_mirrored h]

theorem decode_write_exact {p : Params} {a : BusAddr} (h : p.mirrored a = false) (d : Byte) :
    decode p (requestWord 1 a d) = writeRow p a d := by
  rw [decode_write, decodedAddr_not_mirrored h]

theorem mem_readableAddrs {a : BusAddr} : a ∈ readableAddrs ↔ a = 0x2002 ∨ a = 0x2007 ∨ a = 0x4016 := by
  simp only [readableAddrs, List.mem_cons, List.not_mem_nil, or_false]

theorem mem_writableAddrs {a : BusAddr} :
    a ∈ writableAddrs ↔ a = 0x2000 ∨ a = 0x2001 ∨ a = 0x2003 ∨ a = 0x2004 ∨ a = 0x2005 ∨ a = 0x2006 ∨ a = 0x2007 ∨
      a = 0x4014 ∨ a = 0x4016 := by
  simp only [writableAddrs, List.mem_cons, List.not_mem_nil, or_false]

/-- An address with no read behaviour falls through the read column. -/
theorem readRow_of_notMem {a : BusAddr} (h : a ∉ readableAddrs) : readRow a = .rdUnmapped a := by
  simp only [mem_readableAddrs, not_or] at h
  simp only [readRow, h, if_false]

/-- An address that is no writable register is looked up among the audio addresses, then falls through. -/
theorem writeRow_of_notMem (p : Params) {a : BusAddr} (h : a ∉ writableAddrs) (d : Byte) :
    writeRow p a d =
      if a = p.audioAddrA then .wrAudioA d else if a = p.audioAddrB then .wrAudioB d else .wrUnmapped a d := by
  simp only [mem_writableAddrs, not_or] at h
  simp only [writeRow, h, if_false]

/-! ### Legal parameters and well-formed requests -/

/-- A legal audio address is no register and no mirror (R7, R72). -/
theorem audioAddrOk_iff {p : Params} {a : BusAddr} :
    p.audioAddrOk a = true ↔ a ∉ registerAddrs ∧ p.mirrored a = false := by
  simp [Params.audioAddrOk]

theorem Params.wf_audio {p : Params} (h : p.wf = true) :
    p.audioAddrOk p.audioAddrA = true ∧ p.audioAddrOk p.audioAddrB = true ∧ p.audioAddrB ≠ p.audioAddrA := by
  simp only [Params.wf, Bool.and_eq_true, bne_iff_ne] at h
  obtain ⟨⟨⟨⟨⟨-, hA⟩, hB⟩, hne⟩, -⟩, -⟩ := h
  exact ⟨hA, hB, hne.symm⟩

theorem notMem_writableAddrs {a : BusAddr} (h : a ∉ registerAddrs) : a ∉ writableAddrs :=
  have hsub : writableAddrs ⊆ registerAddrs := by decide
  fun ha => h (hsub ha)

theorem rdUnmapped_wf_iff {p : Params} {a : BusAddr} :
    (Instr.rdUnmapped a).wf p = true ↔ a ∉ readableAddrs ∧ p.mirrored a = false := by
  simp [Instr.wf]

theorem wrUnmapped_wf_iff {p : Params} {a : BusAddr} {d : Byte} :
    (Instr.wrUnmapped a d).wf p = true ↔
      a ∉ writableAddrs ∧ a ≠ p.audioAddrA ∧ a ≠ p.audioAddrB ∧ p.mirrored a = false := by
  simp [Instr.wf, and_assoc]

/-! ### Decoding and encoding -/

/-- The word of a well-formed request decodes to it. -/
theorem decode_encode {p : Params} {i : Instr} (hp : p.wf = true) (hi : i.wf p = true) :
    decode p (encode p i) = i := by
  obtain ⟨hA, hB, hne⟩ := p.wf_audio hp
  rw [audioAddrOk_iff] at hA hB
  cases i with
  | rdPpustatus | rdPpudata | rdJoy => exact decode_read_exact (mirrored_outside p _ (by decide)) _
  | wrPpuctrl | wrPpumask | wrOamaddr | wrOamdata | wrPpuscroll | wrPpuaddr | wrPpudata | wrOamdma | wrJoystrobe =>
    exact decode_write_exact (mirrored_outside p _ (by decide)) _
  | rdUnmapped a =>
    obtain ⟨ha, hmirror⟩ := rdUnmapped_wf_iff.mp hi
    rw [encode, decode_read_exact hmirror, readRow_of_notMem ha]
  | wrUnmapped a d =>
    obtain ⟨ha, haA, haB, hmirror⟩ := wrUnmapped_wf_iff.mp hi
    rw [encode, decode_write_exact hmirror, writeRow_of_notMem p ha, if_neg haA, if_neg haB]
  | wrAudioA d =>
    rw [encode, decode_write_exact hA.2, writeRow_of_notMem p (notMem_writableAddrs hA.1), if_pos rfl]
  | wrAudioB d =>
    rw [encode, decode_write_exact hB.2, writeRow_of_notMem p (notMem_writableAddrs hB.1), if_neg hne, if_pos rfl]
  | tick | render | setInput | wireCpu | reserved6 | reserved7 => exact decode_requestWord p _ _ _

/-- Settles O1: a register's address is no mirror, a legal audio address is neither register nor mirror, and a well-formed
catch-all falls through its column. -/
theorem decodeOfEncodeIsTheRequest : Obligations.DecodeOfEncodeIsTheRequest :=
  fun _ _ => decode_encode

theorem readRow_wf {p : Params} {a : BusAddr} (h : p.mirrored a = false) : (readRow a).wf p = true := by
  by_cases ha : a ∈ readableAddrs
  · obtain rfl | rfl | rfl := mem_readableAddrs.mp ha <;> rfl
  · rw [readRow_of_notMem ha]
    exact rdUnmapped_wf_iff.mpr ⟨ha, h⟩

theorem writeRow_wf {p : Params} {a : BusAddr} (h : p.mirrored a = false) (d : Byte) :
    (writeRow p a d).wf p = true := by
  by_cases ha : a ∈ writableAddrs
  · obtain rfl | rfl | rfl | rfl | rfl | rfl | rfl | rfl | rfl := mem_writableAddrs.mp ha <;> rfl
  · rw [writeRow_of_notMem p ha]
    split
    · rfl
    · next hA =>
      split
      · rfl
      · next hB => exact wrUnmapped_wf_iff.mpr ⟨ha, hA, hB, h⟩

/-! ### Every word, by its three fields -/

theorem op_cases (op : BitVec 3) :
    op = 0 ∨ op = 1 ∨ op = 2 ∨ op = 3 ∨ op = 4 ∨ op = 5 ∨ op = 6 ∨ op = 7 := by
  revert op; decide

/-- What holds of every word built from three fields holds of every word (R70). -/
theorem forall_requestWord {P : ReqWord → Prop} (h : ∀ op a d, P (requestWord op a d)) (w : ReqWord) : P w :=
  requestWord_fields w ▸ h (opField w) (addrField w) (dataField w)

theorem decode_wf (p : Params) (w : ReqWord) : (decode p w).wf p = true := by
  induction w using forall_requestWord with | h op a d
  obtain rfl | rfl | rfl | rfl | rfl | rfl | rfl | rfl := op_cases op
  · rw [decode_read]
    exact readRow_wf (mirrored_decodedAddr p a)
  · rw [decode_write]
    exact writeRow_wf (mirrored_decodedAddr p a) d
  all_goals rw [decode_requestWord]; rfl

/-- Settles O2: the address looked up is no mirror, and a column gives its catch-all only an address it does not list. -/
theorem decodeGivesAWellFormedRequest : Obligations.DecodeGivesAWellFormedRequest := decode_wf

/-! ### The rows of the opcode table -/

theorem requestWord_inj {op op' : BitVec 3} {a a' : BusAddr} {d d' : Byte} :
    requestWord op a d = requestWord op' a' d' ↔ op = op' ∧ a = a' ∧ d = d' := by
  refine ⟨fun h => ⟨?_, ?_, ?_⟩, fun ⟨hop, ha, hd⟩ => by rw [hop, ha, hd]⟩
  · simpa using congrArg opField h
  · simpa using congrArg addrField h
  · simpa using congrArg dataField h

/-- The mask of the mirrored rows keeps address bits 15:13 and 2:0 (R77). -/
theorem toNat_and_mirrorMask (a : BusAddr) : (a &&& 0xE007).toNat = a.toNat / 0x2000 * 0x2000 + a.toNat % 8 := by
  have hhigh : (a.toNat &&& 0xE007) / 2 ^ 13 = a.toNat / 2 ^ 13 % 2 ^ 3 := by
    rw [Nat.and_div_two_pow, ← Nat.and_two_pow_sub_one_eq_mod]
  have hlow : (a.toNat &&& 0xE007) % 2 ^ 13 = a.toNat % 2 ^ 13 % 2 ^ 3 := by
    rw [Nat.and_mod_two_pow, ← Nat.and_two_pow_sub_one_eq_mod (a.toNat % 2 ^ 13) 3]
  have hlt := a.isLt
  rw [BitVec.toNat_and, show (0xE007 : BusAddr).toNat = 0xE007 from rfl]
  omega

/-- With the mirrors on, the address bits that the mask keeps tell which register the address decodes as (R73, R77). -/
theorem and_mirrorMask_eq_iff {p : Params} {a r : BusAddr} (hp : p.mirrorPpuRegs = true) (hr : r.toNat / 8 = 0x400) :
    a &&& 0xE007 = r ↔ decodedAddr p a = r := by
  rw [← BitVec.toNat_inj, ← BitVec.toNat_inj, toNat_and_mirrorMask]
  cases h : p.mirrored a with
  | true =>
    have hrange := (mirrored_iff.mp h).2
    rw [toNat_decodedAddr_mirrored h]
    omega
  | false =>
    have hrange : ¬ (0x2008 ≤ a.toNat ∧ a.toNat ≤ 0x3FFF) := fun hr => by simp [mirrored_iff.mpr ⟨hp, hr⟩] at h
    rw [decodedAddr_not_mirrored h]
    omega

/-- A word meets the row of a register of 0x2000 to 0x2007 when it has the row's op and decodes as its address (R77). -/
theorem meets_registerRow_iff (p : Params) (op op' : BitVec 3) (a : BusAddr) (d : Byte) {r : BusAddr}
    (hr : r.toNat / 8 = 0x400) :
    requestWord op a d &&& ppuRowMask p = requestWord op' r 0 ↔ op = op' ∧ decodedAddr p a = r := by
  unfold ppuRowMask
  split
  · next hp =>
    rw [mirrorMask_fields, requestWord_and, and_allOnes3, and_zero8, requestWord_inj, and_mirrorMask_eq_iff hp hr]
    simp
  · next hp =>
    have hmirror : p.mirrored a = false := by simp [Params.mirrored, hp]
    rw [fullMask_fields, requestWord_and, and_allOnes3, and_allOnes16, and_zero8, requestWord_inj,
      decodedAddr_not_mirrored hmirror]
    simp

/-- A word meets a row of one address that has no mirrors when it has the row's op and address (R77). -/
theorem meets_addressRow_iff {p : Params} (op op' : BitVec 3) (a : BusAddr) (d : Byte) {r : BusAddr}
    (hmirror : p.mirrored r = false) (hreg : r.toNat / 8 ≠ 0x400) :
    requestWord op a d &&& 0x7FFFF00 = requestWord op' r 0 ↔ op = op' ∧ decodedAddr p a = r := by
  rw [fullMask_fields, requestWord_and, and_allOnes3, and_allOnes16, and_zero8, requestWord_inj,
    decodedAddr_eq_iff hmirror hreg]
  simp

/-- A word meets a row selected by op alone when it has the row's op (R77). -/
theorem meets_opRow_iff (op op' : BitVec 3) (a : BusAddr) (d : Byte) :
    requestWord op a d &&& 0x7000000 = requestWord op' 0 0 ↔ op = op' := by
  rw [opMask_fields, requestWord_and, and_allOnes3, and_zero16, and_zero8, requestWord_inj]
  simp

/-- The row of the request is one of a single address: neither a catch-all nor selected by op alone (R77). -/
def Instr.namesAddress : Instr → Bool
  | .rdUnmapped _ | .wrUnmapped _ _ | .tick | .render | .setInput _ | .wireCpu | .reserved6 | .reserved7 => false
  | .rdPpustatus | .rdPpudata | .rdJoy | .wrPpuctrl _ | .wrPpumask _ | .wrOamaddr _ | .wrOamdata _ => true
  | .wrPpuscroll _ | .wrPpuaddr _ | .wrPpudata _ | .wrOamdma _ | .wrJoystrobe _ | .wrAudioA _ | .wrAudioB _ => true

theorem register_div_ne {a : BusAddr} (h : a ∉ registerAddrs) : a.toNat / 8 ≠ 0x400 := by
  simp only [registerAddrs, List.mem_cons, List.not_mem_nil, or_false, not_or] at h
  bv_omega

/-- The match value of a row is its word's op and, where the row is one of a single address, the address (R77). -/
theorem rowMatch_eq (p : Params) (i : Instr) :
    rowMatch p i = requestWord (opField (encode p i)) (if i.namesAddress then addrField (encode p i) else 0) 0 := by
  cases i <;> simp only [encode, opField_requestWord, addrField_requestWord, Instr.namesAddress, if_true,
    Bool.false_eq_true, if_false] <;> rfl

/-- What it is to meet a row of the opcode table: to have the op of the row's word and, where the row is one of a single
address, to decode as that address (R73, R77). -/
theorem meets_row_iff {p : Params} (hp : p.wf = true) (op : BitVec 3) (a : BusAddr) (d : Byte) (i : Instr) :
    requestWord op a d &&& rowMask p i = rowMatch p i ↔
      op = opField (encode p i) ∧ (i.namesAddress = true → decodedAddr p a = addrField (encode p i)) := by
  obtain ⟨hA, hB, -⟩ := p.wf_audio hp
  rw [audioAddrOk_iff] at hA hB
  rw [rowMatch_eq]
  cases i with
    simp only [rowMask, encode, opField_requestWord, addrField_requestWord, Instr.namesAddress, if_true, true_imp_iff,
      Bool.false_eq_true, if_false, false_imp_iff, and_true]
  | rdPpustatus | rdPpudata | wrPpuctrl | wrPpumask | wrOamaddr | wrOamdata | wrPpuscroll | wrPpuaddr | wrPpudata =>
    exact meets_registerRow_iff p op _ a d (by decide)
  | rdJoy | wrOamdma | wrJoystrobe =>
    exact meets_addressRow_iff op _ a d (mirrored_outside p _ (by decide)) (by decide)
  | wrAudioA => exact meets_addressRow_iff op 1 a d hA.2 (register_div_ne hA.1)
  | wrAudioB => exact meets_addressRow_iff op 1 a d hB.2 (register_div_ne hB.1)
  | rdUnmapped | wrUnmapped | tick | render | setInput | wireCpu | reserved6 | reserved7 =>
    exact meets_opRow_iff op _ a d

theorem encode_readRow (p : Params) (a : BusAddr) : encode p (readRow a) = requestWord 0 a 0 := by
  by_cases ha : a ∈ readableAddrs
  · obtain rfl | rfl | rfl := mem_readableAddrs.mp ha <;> rfl
  · rw [readRow_of_notMem ha, encode]

theorem encode_writeRow (p : Params) (a : BusAddr) (d : Byte) : encode p (writeRow p a d) = requestWord 1 a d := by
  by_cases ha : a ∈ writableAddrs
  · obtain rfl | rfl | rfl | rfl | rfl | rfl | rfl | rfl | rfl := mem_writableAddrs.mp ha <;> rfl
  · rw [writeRow_of_notMem p ha]
    split
    · next hA => rw [encode, hA]
    · split
      · next hB => rw [encode, hB]
      · rw [encode]

/-- A word meets the row it decodes to. -/
theorem decode_meets_row {p : Params} (hp : p.wf = true) (w : ReqWord) :
    w &&& rowMask p (decode p w) = rowMatch p (decode p w) := by
  induction w using forall_requestWord with | h op a d
  rw [meets_row_iff hp]
  obtain rfl | rfl | rfl | rfl | rfl | rfl | rfl | rfl := op_cases op
  · rw [decode_read, encode_readRow, opField_requestWord, addrField_requestWord]
    exact ⟨rfl, fun _ => rfl⟩
  · rw [decode_write, encode_writeRow, opField_requestWord, addrField_requestWord]
    exact ⟨rfl, fun _ => rfl⟩
  all_goals
    simp only [decode_tick, decode_render, decode_setInput, decode_wireCpu, decode_reserved6, decode_reserved7]
    exact ⟨(opField_requestWord _ _ _).symm, nofun⟩

/-- The row of the write column does not depend on the data byte (R74). -/
theorem rowMatch_writeRow (p : Params) (a : BusAddr) (d d' : Byte) :
    rowMatch p (writeRow p a d) = rowMatch p (writeRow p a d') := by
  by_cases ha : a ∈ writableAddrs
  · obtain rfl | rfl | rfl | rfl | rfl | rfl | rfl | rfl | rfl := mem_writableAddrs.mp ha <;> rfl
  · rw [writeRow_of_notMem p ha, writeRow_of_notMem p ha]
    split
    · rfl
    · split <;> rfl

/-- The row a word decodes to is told by its op and, for a bus access, its decoded address (R73). -/
theorem rowMatch_decode_congr {p : Params} {op : BitVec 3} {a a' : BusAddr} (d d' : Byte)
    (haddr : op = 0 ∨ op = 1 → decodedAddr p a = decodedAddr p a') :
    rowMatch p (decode p (requestWord op a d)) = rowMatch p (decode p (requestWord op a' d')) := by
  obtain rfl | rfl | rfl | rfl | rfl | rfl | rfl | rfl := op_cases op
  · rw [decode_read, decode_read, haddr (.inl rfl)]
  · rw [decode_write, decode_write, haddr (.inr rfl), rowMatch_writeRow]
  all_goals rw [decode_requestWord, decode_requestWord]; rfl

section
variable {p : Params} {i : Instr} (hrd : ∀ a, i ≠ .rdUnmapped a) (hwr : ∀ a d, i ≠ .wrUnmapped a d)
include hrd hwr

theorem wf_of_not_catchAll : i.wf p = true := by
  cases i with
  | rdUnmapped a => exact absurd rfl (hrd a)
  | wrUnmapped a d => exact absurd rfl (hwr a d)
  | _ => rfl

/-- A bus access that is no catch-all has a row of a single address (R72, R77). -/
theorem namesAddress_of_access (hop : opField (encode p i) = 0 ∨ opField (encode p i) = 1) :
    i.namesAddress = true := by
  cases i with
  | rdUnmapped a => exact absurd rfl (hrd a)
  | wrUnmapped a d => exact absurd rfl (hwr a d)
  | tick | render | setInput | wireCpu | reserved6 | reserved7 => simp [encode] at hop
  | _ => rfl

/-- A word that meets the row of a request that is no catch-all decodes to that row, as the request's own word does. -/
theorem rowMatch_decode_of_meets (hp : p.wf = true) {w : ReqWord} (h : w &&& rowMask p i = rowMatch p i) :
    rowMatch p (decode p w) = rowMatch p i := by
  induction w using forall_requestWord with | h op a d
  obtain ⟨hop, haddr⟩ := (meets_row_iff hp op a d i).mp h
  have hsame : op = 0 ∨ op = 1 → decodedAddr p a = decodedAddr p (addrField (encode p i)) := fun haccess => by
    rw [← haddr (namesAddress_of_access hrd hwr (hop ▸ haccess)), decodedAddr_decodedAddr]
  calc rowMatch p (decode p (requestWord op a d))
    _ = rowMatch p (decode p (requestWord op (addrField (encode p i)) (dataField (encode p i)))) :=
      rowMatch_decode_congr _ _ hsame
    _ = rowMatch p (decode p (encode p i)) := by rw [hop, requestWord_fields]
    _ = rowMatch p i := by rw [decode_encode hp (wf_of_not_catchAll hrd hwr)]

end

/-- Settles O3: meeting a row is having its op and decoding as its address (`meets_row_iff`), which is how the decoder
chooses. -/
theorem decodeFollowsTheOpcodeTable : Obligations.DecodeFollowsTheOpcodeTable :=
  fun _ w hp => ⟨decode_meets_row hp w, fun _ hrd hwr => rowMatch_decode_of_meets hrd hwr hp⟩

/-- Settles O4: the op alone decides six kinds of request, and the columns take the decoded address and the data byte. -/
theorem unusedFieldsAreIgnored : Obligations.UnusedFieldsAreIgnored := by
  intro p a a' d d'
  refine ⟨fun op h0 h1 h4 => ?_, decode_read p a d, decode_write p a d, decode_setInput p a d⟩
  obtain rfl | rfl | rfl | rfl | rfl | rfl | rfl | rfl := op_cases op
  · exact absurd rfl h0
  · exact absurd rfl h1
  · rw [decode_tick, decode_tick]
  · rw [decode_render, decode_render]
  · exact absurd rfl h4
  · rw [decode_wireCpu, decode_wireCpu]
  · rw [decode_reserved6, decode_reserved6]
  · rw [decode_reserved7, decode_reserved7]

/-- Settles O5: a mirror's decoded address is the folded one, every other address decodes as itself. -/
theorem mirrorsAnswerAsTheEightRegisters : Obligations.MirrorsAnswerAsTheEightRegisters := by
  intro p a d
  refine ⟨⟨decode_tick p a d, decode_render p a d, decode_setInput p a d, decode_wireCpu p a d,
    decode_reserved6 p a d, decode_reserved7 p a d⟩, fun hp hlo hhi => ?_, fun hexact => ?_⟩
  · have hmirror : p.mirrored a = true := mirrored_iff.mpr ⟨hp, hlo, hhi⟩
    rw [decode_read, decode_write, decodedAddr_mirrored hmirror]
    exact ⟨rfl, rfl⟩
  · have hmirror : p.mirrored a = false := by
      rw [Bool.eq_false_iff, ne_eq, mirrored_iff]
      rintro ⟨hp, hlo, hhi⟩
      rcases hexact with h | h
      · rw [h] at hp; cases hp
      · omega
    exact ⟨decode_read_exact hmirror d, decode_write_exact hmirror d⟩

/-- Settles O6: the eleven words are closed terms, and the decoder runs on them. -/
theorem sampleWordsDecode : Obligations.SampleWordsDecode := by
  unfold Obligations.SampleWordsDecode
  decide

/-- Settles O7: the two branches of the bound on the number. -/
theorem overlongNumbersAreNoRequests : Obligations.OverlongNumbersAreNoRequests :=
  fun _ _ => ⟨fun hwide => if_neg (Nat.not_lt.mpr hwide), fun hword => if_pos hword⟩

end Sys2Proof

namespace Sys2Proof.Machine

/-! ### A pair of address writes -/

/-- The first write of an address pair (R103). -/
theorem exec_wrPpuaddr_first (d : Byte) {s : State} (hw : s.w = false) :
    exec (.wrPpuaddr d) s = finish (addressHigh d s) := by
  simp [exec, execWrPpuaddr, hw]

/-- The second write of an address pair (R104). -/
theorem exec_wrPpuaddr_second (d : Byte) {s : State} (hw : s.w = true) :
    exec (.wrPpuaddr d) s = finish (addressLow d s) := by
  simp [exec, execWrPpuaddr, hw]

/-- The first write puts the low six bits of its byte into the cursor (R103). -/
theorem toNat_addressHigh_vAddr (d : Byte) (s : State) : (addressHigh d s).vAddr.toNat = d.toNat % 64 := by
  rw [addressHigh_vAddr, BitVec.toNat_setWidth, BitVec.extractLsb'_toNat]
  omega

/-- A second write whose shift stays in the 14-bit space (R104). -/
theorem addressLow_inRange (d : Byte) {s : State} (hovf : s.vOvf = false) (hhigh : s.vAddr.toNat < 64) :
    addressLow d s = { s with vAddr := BitVec.ofNat 14 (s.vAddr.toNat * 256 + d.toNat), w := false } := by
  have hzero : s.vAddr.extractLsb' 6 8 = 0 := by
    apply BitVec.eq_of_toNat_eq
    rw [BitVec.extractLsb'_toNat, Nat.shiftRight_eq_div_pow, Nat.div_eq_of_lt hhigh]
    rfl
  have hcursor : s.vAddr.extractLsb' 0 6 ++ d = BitVec.ofNat 14 (s.vAddr.toNat * 256 + d.toNat) := by
    apply BitVec.eq_of_toNat_eq
    rw [BitVec.toNat_append, BitVec.extractLsb'_toNat, BitVec.toNat_ofNat, ← Nat.shiftLeft_add_eq_or_of_lt d.isLt,
      Nat.shiftLeft_eq]
    omega
  rw [addressLow, if_pos ⟨hovf, hzero⟩, hcursor]

/-- A run of one more step, when the first has a next state. -/
theorem run_succ {s t : State} (h : step s = .next t) (k : Nat) : core.run (k + 1) s = core.run k t := by
  have hstep : core.step s = .next t := h
  simp only [Host.Core.run, hstep]

section
variable {d : Byte} {s : State} {rest : List Arrival} (hrun : s.running)
  (harr : s.arrivals = .request (requestWord 1 0x2006 d) :: rest)
include hrun harr

theorem step_of_running_addressWrite :
    step s = exec (.wrPpuaddr d) (takeRequest (requestWord 1 0x2006 d) rest s) := by
  rw [step_of_running_request hrun harr, decode_write_exact (mirrored_outside s.params 0x2006 (by decide))]
  rfl

/-- The step that takes the first word of an address pair goes on with the second (R103). -/
theorem step_addressWrite_first (hw : s.w = false) :
    ∃ t, step s = .next t ∧ t.running ∧ t.arrivals = rest ∧ t.w = true ∧ t.vOvf = false ∧
      t.vAddr.toNat = d.toNat % 64 :=
  ⟨_, (step_of_running_addressWrite hrun harr).trans (exec_wrPpuaddr_first d hw), hrun, rfl, rfl, rfl,
    toNat_addressHigh_vAddr d s⟩

/-- The step that takes the second word of an address pair, from a cursor of at most six bits (R104). -/
theorem step_addressWrite_second (hw : s.w = true) (hovf : s.vOvf = false) (hhigh : s.vAddr.toNat < 64) :
    ∃ t, step s = .next t ∧ t.arrivals = rest ∧ t.w = false ∧ t.vOvf = false ∧
      t.vAddr.toNat = s.vAddr.toNat * 256 + d.toNat := by
  have hstep := (step_of_running_addressWrite hrun harr).trans (exec_wrPpuaddr_second d hw)
  rw [addressLow_inRange d (s := takeRequest _ rest s) hovf hhigh] at hstep
  refine ⟨_, hstep, rfl, rfl, hovf, ?_⟩
  rw [BitVec.toNat_ofNat, takeRequest_vAddr]
  omega

end

/-- The two bytes of `setaddr X`, the first without its top two bits, are `X` modulo 0x4000 (R82). -/
theorem addressPair_of_halves (x : BusAddr) :
    (x.extractLsb' 8 8).toNat % 64 * 256 + (x.extractLsb' 0 8).toNat = x.toNat % 0x4000 := by
  rw [BitVec.extractLsb'_toNat, BitVec.extractLsb'_toNat, Nat.shiftRight_eq_div_pow, Nat.shiftRight_zero]
  omega

/-- Settles O17: the first word leaves six bits in the cursor, so the second shifts them within the 14-bit space. -/
theorem setaddrReachesItsAddress : Obligations.SetaddrReachesItsAddress := by
  intro x s hrun hw harr
  obtain ⟨t, hfirst, htrun, htarr, htw, htovf, htaddr⟩ := step_addressWrite_first hrun harr hw
  obtain ⟨u, hsecond, huarr, huw, huovf, huaddr⟩ := step_addressWrite_second htrun htarr htw htovf (by omega)
  refine ⟨u, (run_succ hfirst 1).trans (run_succ hsecond 0), ?_, huovf, huw, huarr⟩
  rw [huaddr, htaddr, addressPair_of_halves]

/-! ### The reserved requests -/

/-- The step of a block that a reserved request has stopped (R246, log entry 4). -/
theorem step_of_refused {s : State} (hfault : s.fault = none) (hrefused : s.refused = true) :
    step s = .refused .reservedRequest := by
  simp [step, fetch, hfault, hrefused]

/-- What a refusal leaves, and the step after it (R78, R242, R246). -/
theorem refuse_stops (s : State) :
    ∃ t, refuse s = .next t ∧ t = { s with refused := true, response := .nothing } ∧
      (s.fault = none → step t = .refused .reservedRequest) :=
  ⟨_, rfl, rfl, fun hfault => step_of_refused hfault rfl⟩

/-- Settles O35: both reserved requests are the one refusal. -/
theorem reservedRequestsAreRefused : Obligations.ReservedRequestsAreRefused :=
  fun s => ⟨refuse_stops s, refuse_stops s⟩

end Sys2Proof.Machine

/-! ## Proofs: register writes -/

namespace Sys2Proof.Machine

/-- A write outside the range that the mirrors can answer is looked up at its own address (R73). -/
theorem decode_write_outside (p : Params) {a : BusAddr} (h : a.toNat < 0x2008 ∨ 0x3FFF < a.toNat) (d : Byte) :
    decode p (requestWord 1 a d) = writeRow p a d :=
  decode_write_exact (mirrored_outside p a h) d

/-! ### The address port -/

/-- The first write of a pair, by the value of its byte (R103). -/
theorem addressHigh_eq (d : Byte) (s : State) :
    addressHigh d s = { s with vAddr := BitVec.ofNat 14 (d.toNat % 64), vOvf := false, w := true } := by
  have hcursor : (addressHigh d s).vAddr = BitVec.ofNat 14 (d.toNat % 64) := by
    rw [← toNat_addressHigh_vAddr d s, BitVec.ofNat_toNat, BitVec.setWidth_eq]
  rw [← hcursor]
  rfl

/-- The cursor shifted left by 8 with a byte below, modulo 14 bits (R104). -/
theorem shifted_or_byte (v : VramAddr) (d : Byte) :
    (v <<< 8) ||| d.setWidth 14 = BitVec.ofNat 14 (v.toNat * 256 + d.toNat) := by
  apply BitVec.eq_of_toNat_eq
  have hbyte : (d.setWidth 14).toNat = d.toNat := BitVec.toNat_setWidth_of_le (by decide)
  have hshift : (v <<< 8).toNat = (v.toNat % 64) <<< 8 := by
    rw [BitVec.toNat_shiftLeft, Nat.shiftLeft_eq, Nat.shiftLeft_eq]
    omega
  rw [BitVec.toNat_or, hbyte, hshift, ← Nat.shiftLeft_add_eq_or_of_lt d.isLt, BitVec.toNat_ofNat, Nat.shiftLeft_eq]
  omega

/-- The high eight bits of the cursor are zero exactly below 64. -/
theorem vAddr_high_eq_zero_iff (v : VramAddr) : v.extractLsb' 6 8 = 0 ↔ v.toNat < 64 := by
  rw [← BitVec.toNat_inj, BitVec.extractLsb'_toNat, Nat.shiftRight_eq_div_pow, show (0 : BitVec 8).toNat = 0 from rfl]
  omega

/-- A second write whose shift leaves the 14-bit space, or finds the cursor outside it (R104). -/
theorem addressLow_outOfRange (d : Byte) {s : State} (hout : s.vOvf = true ∨ 64 ≤ s.vAddr.toNat) :
    addressLow d s =
      { s with vAddr := BitVec.ofNat 14 (s.vAddr.toNat * 256 + d.toNat), vOvf := true, w := false } := by
  have hcond : ¬ (s.vOvf = false ∧ s.vAddr.extractLsb' 6 8 = 0) := by
    rintro ⟨hovf, hhigh⟩
    rw [vAddr_high_eq_zero_iff] at hhigh
    rcases hout with h | h
    · rw [h] at hovf; cases hovf
    · omega
  rw [addressLow, if_neg hcond, shifted_or_byte]

/-- What a request records and puts out is no part of the cursor. -/
theorem SameButOutputs.vOvf {u t : State} (h : SameButOutputs u t) : t.vOvf = u.vOvf := by
  rw [h]

/-- The only effect that takes the cursor out of overflow is the first write of an address pair (R103). -/
theorem Effect.leaves_overflow {s u : State} {i : Instr} (h : Effect s i u) (hovf : s.vOvf = true)
    (hclear : u.vOvf = false) : s.w = false ∧ ∃ d, i = .wrPpuaddr d := by
  cases h with
  | addressHigh d hw => exact ⟨hw, d, rfl⟩
  | addressLow d =>
    rw [addressLow_outOfRange d (.inl hovf)] at hclear
    cases hclear
  | dataWrite d hin => rw [hovf] at hin; cases hin
  | dataRead hin => rw [hovf] at hin; cases hin
  | _ => simp [hovf] at hclear

/-- Settles O14: the first write is `addressHigh`, and no other effect of a request clears the overflow bit. -/
theorem firstAddressWriteSetsTheHighBits : Obligations.FirstAddressWriteSetsTheHighBits := by
  refine fun s => ⟨fun d => ⟨decode_write_outside _ (by decide) d, fun hw => ?_⟩, fun i t h hovf hclear => ?_⟩
  · rw [exec_wrPpuaddr_first d hw, addressHigh_eq, finish]
  · obtain ⟨u, heffect, hout⟩ := exec_effect h
    exact heffect.leaves_overflow hovf (hout.vOvf ▸ hclear)

/-- Settles O15: the second write is `addressLow`, in range or out of it. -/
theorem secondAddressWriteShiftsTheCursor : Obligations.SecondAddressWriteShiftsTheCursor := by
  refine fun d s hw => ⟨decode_write_outside _ (by decide) d, fun hovf hhigh => ?_, fun hout => ?_⟩
  · rw [exec_wrPpuaddr_second d hw, addressLow_inRange d hovf hhigh, finish]
  · rw [exec_wrPpuaddr_second d hw, addressLow_outOfRange d hout, finish]

/-- A first write completes and leaves six bits in the cursor, in range and ready for the second (R103). -/
theorem exec_addressWrite_first (d : Byte) {s : State} (hw : s.w = false) :
    ∃ t, exec (.wrPpuaddr d) s = .next t ∧ t.vAddr.toNat = d.toNat % 64 ∧ t.vOvf = false ∧ t.w = true :=
  ⟨_, exec_wrPpuaddr_first d hw, toNat_addressHigh_vAddr d s, rfl, rfl⟩

/-- A second write after six bits completes with the whole address in range (R104). -/
theorem exec_addressWrite_second (d : Byte) {s : State} (hw : s.w = true) (hovf : s.vOvf = false)
    (hhigh : s.vAddr.toNat < 64) :
    ∃ t, exec (.wrPpuaddr d) s = .next t ∧ t.vAddr.toNat = s.vAddr.toNat * 256 + d.toNat ∧ t.vOvf = false ∧
      t.w = false := by
  have hexec := exec_wrPpuaddr_second d hw
  rw [addressLow_inRange d hovf hhigh] at hexec
  refine ⟨_, hexec, ?_, hovf, rfl⟩
  rw [BitVec.toNat_ofNat]
  omega

/-- Settles O16: a first write, a second on what it leaves, and a first again. -/
theorem addressPairSetsTheCursor : Obligations.AddressPairSetsTheCursor := by
  intro hi lo third s hw
  obtain ⟨t, hfirst, htaddr, htovf, htw⟩ := exec_addressWrite_first hi hw
  obtain ⟨u, hsecond, huaddr, huovf, huw⟩ := exec_addressWrite_second lo htw htovf (by omega)
  obtain ⟨v, hthird, hvaddr, -, hvw⟩ := exec_addressWrite_first third huw
  exact ⟨t, u, v, hfirst, hsecond, by rw [huaddr, htaddr], huovf, huw, hthird, hvaddr, hvw⟩

/-! ### The data port -/

/-- From a cursor in range the overflow bit after an advance tells whether the sum left the 14-bit space (R107). -/
theorem advance_eq {s : State} (hovf : s.vOvf = false) :
    advance s = { s with
      vAddr := BitVec.ofNat 14 (s.vAddr.toNat + cursorStep s)
      vOvf := decide (0x3FFF < s.vAddr.toNat + cursorStep s) } := by
  have hbit : (advance s).vOvf = decide (0x3FFF < s.vAddr.toNat + cursorStep s) := by simp [hovf]
  rw [← hbit]
  rfl

/-- A data write with the cursor out of range raises its fault and stores nothing (R105). -/
theorem exec_wrPpudata_overflowed (d : Byte) {s : State} (hovf : s.vOvf = true) :
    exec (.wrPpudata d) s = raise (.vramOutOfRange s.word) s := if_pos hovf

/-- Settles O18: in range, a store at the cursor and an advance; past the end, the fault. -/
theorem dataWriteStoresAndAdvances : Obligations.DataWriteStoresAndAdvances := by
  refine fun d s => ⟨decode_write_outside _ (by decide) d, fun hovf => ?_, fun hovf => ?_⟩
  · have hexec := exec_wrPpudata_inRange d hovf
    rw [advance_eq (s := { s with vram := s.vram.write s.vAddr.toNat d }) hovf] at hexec
    exact ⟨_, hexec, rfl, fun a => Memory.read_write s.vram _ a d⟩
  · exact ⟨s.word, exec_wrPpudata_overflowed d hovf⟩

/-! ### The OAM DMA -/

/-- Settles O20: the range check is that of every source byte, and the copy is known by its bytes. -/
theorem dmaCopiesThePage : Obligations.DmaCopiesThePage := by
  refine fun d s => ⟨decode_write_outside _ (by decide) d, fun hin => ?_, fun ⟨k, hk, hout⟩ => ?_⟩
  · exact ⟨_, exec_wrOamdma_inRange ((dmaInRange_iff s d).mpr hin), rfl, dmaCopy_read s d⟩
  · have hrange : ¬ dmaInRange s d = true := fun h => by
      have := (dmaInRange_iff s d).mp h k hk
      omega
    exact ⟨d, exec_wrOamdma_outOfRange hrange⟩

/-! ### The catch-alls -/

/-- Settles O23: an address outside R72's columns falls through them, and both catch-alls raise their fault. -/
theorem unmappedAccessesFault : Obligations.UnmappedAccessesFault := by
  refine fun a d s => ⟨fun hexact => ?_, rfl, rfl⟩
  have hmirror : s.params.mirrored a = false := by
    rw [Bool.eq_false_iff, ne_eq, mirrored_iff]
    rintro ⟨hp, hlo, hhi⟩
    have := hexact hp
    omega
  refine ⟨fun hread => ?_, fun hwrite => ?_⟩
  · rw [decode_read_exact hmirror, readRow_of_notMem hread]
  · have hcolumns : a ∉ writableAddrs ++ [s.params.audioAddrA, s.params.audioAddrB] := hwrite
    simp only [List.mem_append, List.mem_cons, List.not_mem_nil, or_false, not_or] at hcolumns
    obtain ⟨hregister, hA, hB⟩ := hcolumns
    rw [decode_write_exact hmirror, writeRow_of_notMem _ hregister, if_neg hA, if_neg hB]

/-! ### The controller port -/

/-- Index 0 names bit 0 of the snapshot (R142). -/
theorem joyByte_first {s : State} (hidx : s.joyIdx = 0) :
    joyByte s = if s.joyState.getLsbD 0 then 1 else 0 := by
  have hbit : ∀ b : Bool, (BitVec.ofBool b).setWidth 8 = if b then (1 : Byte) else 0 := by decide
  rw [joyByte, hidx]
  exact hbit _

/-- A read while strobe is held leaves everything but the response (R142). -/
theorem joyAdvance_held {s : State} (hheld : s.joyStrobe = true) : joyAdvance s = s := by
  simp [joyAdvance, hheld]

/-- A read while strobe is held at index 0 returns bit 0 and leaves everything but the response (R142). -/
theorem exec_rdJoy_held {s : State} (hheld : s.joyStrobe = true) (hidx : s.joyIdx = 0) :
    exec .rdJoy s = .next { s with response := .data (if s.joyState.getLsbD 0 then 1 else 0) } := by
  rw [exec, execRdJoy, joyAdvance_held hheld, joyByte_first hidx, answer]

/-- Any number of reads while strobe is held leave everything but the response (R142). -/
theorem execTimes_rdJoy_held (k : Nat) {s : State} (hheld : s.joyStrobe = true) (hidx : s.joyIdx = 0) :
    ∃ r, execTimes .rdJoy k s = .next { s with response := r } := by
  induction k generalizing s with
  | zero => exact ⟨s.response, rfl⟩
  | succ k ih =>
    rw [execTimes, exec_rdJoy_held hheld hidx]
    exact ih (s := { s with response := _ }) hheld hidx

/-- Settles O30: reads under strobe change only the response, so the next one is like the first. -/
theorem heldStrobeReadsBitZero : Obligations.HeldStrobeReadsBitZero := by
  intro s k hheld hidx
  obtain ⟨r, hreads⟩ := execTimes_rdJoy_held k hheld hidx
  exact ⟨_, _, hreads, hidx, exec_rdJoy_held (s := { s with response := r }) hheld hidx, rfl⟩

/-- A strobe byte with bit 0 set holds the mode and resets the index (R110). -/
theorem strobe_on {d : Byte} (h : d.getLsbD 0 = true) (s : State) :
    strobe d s = { s with joyStrobe := true, joyIdx := 0 } := by
  simp only [strobe, h, if_true]

/-- A strobe byte with bit 0 clear releases the mode and leaves the index (R110). -/
theorem strobe_off {d : Byte} (h : d.getLsbD 0 = false) (s : State) :
    strobe d s = { s with joyStrobe := false } := by
  simp only [strobe, h, Bool.false_eq_true, if_false]

/-- Settles O21: the two values of bit 0. -/
theorem strobeWriteSetsTheMode : Obligations.StrobeWriteSetsTheMode := by
  refine fun d s => ⟨decode_write_outside _ (by decide) d, fun hon => ?_, fun hoff => ?_⟩
  · rw [exec, execWrJoystrobe, strobe_on hon, finish]
  · rw [exec, execWrJoystrobe, strobe_off hoff, finish]

/-! ### Stored, discarded and forwarded bytes -/

/-- Settles O11: the address is one of the eight registers, and its meaning is the store. -/
theorem controlWriteStoresTheByte : Obligations.ControlWriteStoresTheByte :=
  fun d _ => ⟨decode_write_outside _ (by decide) d, rfl⟩

/-- Settles O12: the three addresses are registers, and their meaning is to complete. -/
theorem discardedWritesChangeNothing : Obligations.DiscardedWritesChangeNothing :=
  fun d _ => ⟨⟨decode_write_outside _ (by decide) d, decode_write_outside _ (by decide) d,
    decode_write_outside _ (by decide) d⟩, rfl, rfl, rfl⟩

/-- Settles O13: the report is made exactly when the byte is not zero. -/
theorem scrollWriteReportsANonzeroByte : Obligations.ScrollWriteReportsANonzeroByte := by
  refine fun d s => ⟨decode_write_outside _ (by decide) d, fun hd => ?_, fun hd => ?_⟩
  · rw [exec, execWrPpuscroll, if_pos hd, emit, finish]
  · rw [exec, execWrPpuscroll, if_neg (not_not.mpr hd), finish]

/-- Settles O22: legal audio addresses decode to their rows as their own encodings do, and both rows emit one event. -/
theorem audioWritesAreForwarded : Obligations.AudioWritesAreForwarded :=
  fun d _ => ⟨fun hp => ⟨decode_encode (i := .wrAudioA d) hp rfl, decode_encode (i := .wrAudioB d) hp rfl⟩, rfl, rfl⟩

end Sys2Proof.Machine

/-! ## Proofs: register reads -/

namespace Sys2Proof.Machine

/-- A read outside the range that the mirrors can answer is looked up at its own address (R73). -/
theorem decode_read_outside (p : Params) {a : BusAddr} (h : a.toNat < 0x2008 ∨ 0x3FFF < a.toNat) (d : Byte) :
    decode p (requestWord 0 a d) = readRow a :=
  decode_read_exact (mirrored_outside p a h) d

/-! ### Reads of the data port -/

/-- A data read with the cursor out of range raises its fault and refills nothing (R140). -/
theorem exec_rdPpudata_overflowed {s : State} (hovf : s.vOvf = true) :
    exec .rdPpudata s = raise (.vramOutOfRange s.word) s := if_pos hovf

/-- Settles O24: in range, the buffer is returned and refilled and the cursor advances; past the end, the fault. -/
theorem dataReadReturnsTheBuffer : Obligations.DataReadReturnsTheBuffer := by
  refine fun s => ⟨decode_read_outside _ (by decide), fun hovf => ?_, fun hovf => ?_⟩
  · rw [exec_rdPpudata_inRange hovf, advance_eq (s := { s with rdbuf := vramByte s s.vAddr.toNat }) hovf]
    rfl
  · exact ⟨s.word, exec_rdPpudata_overflowed hovf⟩

/-- Settles O25: the first read refills the buffer from its own cursor and leaves the advanced one in range, so the
second completes and returns that byte. -/
theorem secondDataReadReturnsTheByte : Obligations.SecondDataReadReturnsTheByte := by
  intro s hovf hrange
  have hovf' : (advance { s with rdbuf := vramByte s s.vAddr.toNat }).vOvf = false :=
    (advance_vOvf_inRange hrange).trans hovf
  exact ⟨_, _, exec_rdPpudata_inRange hovf, exec_rdPpudata_inRange hovf', rfl, rfl⟩

/-! ### Reads of the controller port -/

/-- A saturated index reads as 1 (R142). -/
theorem joyByte_saturated {s : State} (h : 7 < s.joyIdx.toNat) : joyByte s = 1 := if_pos h

/-- An index up to 7 names its bit of the snapshot (R142). -/
theorem joyByte_bit {s : State} (h : s.joyIdx.toNat ≤ 7) :
    joyByte s = if s.joyState.getLsbD s.joyIdx.toNat then 1 else 0 := by
  have hbit : ∀ b : Bool, (BitVec.ofBool b).setWidth 8 = if b then (1 : Byte) else 0 := by decide
  rw [joyByte, if_neg (Nat.not_lt.mpr h), hbit]

/-- A saturated index stays (R142). -/
theorem joyAdvance_saturated {s : State} (h : 7 < s.joyIdx.toNat) : joyAdvance s = s := if_pos h

/-- Without strobe an index up to 7 advances by one (R142). -/
theorem joyAdvance_free {s : State} (h : s.joyIdx.toNat ≤ 7) (hfree : s.joyStrobe = false) :
    joyAdvance s = { s with joyIdx := BitVec.ofNat 4 (s.joyIdx.toNat + 1) } := by
  have hnext : s.joyIdx + 1 = BitVec.ofNat 4 (s.joyIdx.toNat + 1) := by bv_omega
  rw [joyAdvance, if_neg (Nat.not_lt.mpr h), if_neg (by simp [hfree]), hnext]

theorem exec_rdJoy (s : State) : exec .rdJoy s = answer (joyByte s) (joyAdvance s) := rfl

/-- Settles O28: what a controller read returns and where it leaves the index, by whether the index is saturated and
whether strobe holds it. -/
theorem controllerReadReturnsTheBit : Obligations.ControllerReadReturnsTheBit := by
  refine fun s => ⟨decode_read_outside _ (by decide), fun hsat => ?_, fun hle hheld => ?_, fun hle hfree => ?_⟩
  · rw [exec_rdJoy, joyByte_saturated hsat, joyAdvance_saturated hsat, answer]
  · rw [exec_rdJoy, joyByte_bit hle, joyAdvance_held hheld, answer]
  · rw [exec_rdJoy, joyByte_bit hle, joyAdvance_free hle hfree, answer]

/-- Without strobe the index counts reads and saturates at 8 (R41, R142). -/
theorem toNat_joyAdvance_joyIdx {s : State} (hfree : s.joyStrobe = false) (hrange : s.joyIdx.toNat ≤ 8) :
    (joyAdvance s).joyIdx.toNat = min (s.joyIdx.toNat + 1) 8 := by
  by_cases h : s.joyIdx.toNat ≤ 7
  · rw [joyAdvance_free h hfree, BitVec.toNat_ofNat]
    omega
  · rw [joyAdvance_saturated (by omega)]
    omega

/-- A read without strobe completes and counts, and the snapshot and the mode stand (R142). -/
theorem exec_rdJoy_free {s : State} (hfree : s.joyStrobe = false) (hrange : s.joyIdx.toNat ≤ 8) :
    ∃ t, exec .rdJoy s = .next t ∧ t.joyStrobe = false ∧ t.joyState = s.joyState ∧
      t.joyIdx.toNat = min (s.joyIdx.toNat + 1) 8 :=
  ⟨_, exec_rdJoy s, (joyAdvance_joyStrobe s).trans hfree, joyAdvance_joyState s, toNat_joyAdvance_joyIdx hfree hrange⟩

/-- After any number of reads without strobe the index has counted them up to 8, and the snapshot stands (R41, R142). -/
theorem execTimes_rdJoy_free (k : Nat) {s : State} (hfree : s.joyStrobe = false) (hrange : s.joyIdx.toNat ≤ 8) :
    ∃ t, execTimes .rdJoy k s = .next t ∧ t.joyState = s.joyState ∧ t.joyIdx.toNat = min (s.joyIdx.toNat + k) 8 := by
  induction k generalizing s with
  | zero => exact ⟨s, rfl, rfl, by omega⟩
  | succ k ih =>
    obtain ⟨t, hread, htfree, htstate, htidx⟩ := exec_rdJoy_free hfree hrange
    obtain ⟨u, hreads, hustate, huidx⟩ := ih htfree (by omega)
    exact ⟨u, by rw [execTimes, hread]; exact hreads, hustate.trans htstate, by omega⟩

/-- Settles O29: `k` reads leave the index at `k` up to 8, and the next read returns the bit it names or 1. -/
theorem eightReadsReturnTheSnapshotInOrder : Obligations.EightReadsReturnTheSnapshotInOrder := by
  intro s k hfree hzero
  have hstart : s.joyIdx.toNat = 0 := by rw [hzero]; rfl
  obtain ⟨t, hreads, hstate, hcount⟩ := execTimes_rdJoy_free k hfree (by omega)
  refine ⟨t, _, hreads, exec_rdJoy t, congrArg Response.data ?_⟩
  by_cases hk : k < 8
  · have hidx : t.joyIdx.toNat = k := by omega
    rw [joyByte_bit (by omega), hstate, hidx, if_pos hk]
  · rw [joyByte_saturated (by omega), if_neg hk]

/-! ### The status port -/

/-- The status byte is the vblank bit above the seven open bits (R32, R141). -/
theorem toNat_statusValue (s : State) : (statusValue s).toNat = 128 + s.params.statusLow.toNat := by
  rw [statusValue, BitVec.toNat_append, ← Nat.shiftLeft_add_eq_or_of_lt s.params.statusLow.isLt]
  rfl

/-- Settles O27: the read answers the status byte in the state it finds. -/
theorem statusReadIsFixed : Obligations.StatusReadIsFixed :=
  fun s => ⟨decode_read_outside _ (by decide), statusValue s, rfl, toNat_statusValue s⟩

end Sys2Proof.Machine

/-! ## Proofs: timing and host requests -/

namespace Sys2Proof.Machine

/-- Settles O34: both words are decoded by their op alone, and each meaning writes its one element. -/
theorem hostRequestsWriteTheirElement : Obligations.HostRequestsWriteTheirElement :=
  fun d _ => ⟨fun a => ⟨decode_wireCpu _ a d, decode_setInput _ a d⟩, rfl, rfl⟩

/-! ### One tick -/

theorem exec_tick_wired {s : State} (hwired : s.wired = true) : exec .tick s = finish (tickCount s) := if_pos hwired

theorem exec_tick_unwired {s : State} (hwired : s.wired = false) : exec .tick s = raise .notWired s :=
  if_neg (by simp [hwired])

/-- Short of the period a tick only counts (R160). -/
theorem tickCount_short {s : State} (h : s.tick + 1 ≠ s.params.framePeriod) :
    tickCount s = { s with tick := s.tick + 1 } := if_neg h

/-- A wrap with `NMI_EN` = 1 asserts one NMI (R161). -/
theorem tickCount_wrap_enabled {s : State} (h : s.tick + 1 = s.params.framePeriod) (hen : nmiEn s = true) :
    tickCount s = emit (.nmi s.params.nmiArg) { s with tick := 0 } := by
  rw [tickCount, if_pos h, if_pos hen]

/-- A wrap with `NMI_EN` = 0 only clears the counter (R161). -/
theorem tickCount_wrap_disabled {s : State} (h : s.tick + 1 = s.params.framePeriod) (hen : nmiEn s = false) :
    tickCount s = { s with tick := 0 } := by
  rw [tickCount, if_pos h, if_neg (by simp [hen])]

/-- Settles O31: op 2 alone selects TICK, and a tick goes by `wired`, the period and `NMI_EN`. -/
theorem tickCountsAndWraps : Obligations.TickCountsAndWraps := by
  refine fun s => ⟨fun w hop => ?_, fun hwired hshort => ?_, fun hwired hwrap hen => ?_, fun hwired hwrap hen => ?_,
    exec_tick_unwired⟩
  · rw [← requestWord_fields w, show opField w = 2 from hop, decode_tick]
  · rw [exec_tick_wired hwired, tickCount_short hshort, finish]
  · rw [exec_tick_wired hwired, tickCount_wrap_enabled hwrap hen, emit, finish]
  · rw [exec_tick_wired hwired, tickCount_wrap_disabled hwrap hen, finish]

/-! ### Any number of ticks -/

/-- The events of `k` wraps while the control register stands (R161). -/
def wrapEvents (s : State) (k : Nat) : List Event :=
  List.replicate (if nmiEn s then k else 0) (.nmi s.params.nmiArg)

/-- The state that `n` ticks leave from a counter in range, up to the response (R164). -/
def countTicks (n : Nat) (s : State) : State :=
  { s with
    tick := (s.tick + n) % s.params.framePeriod
    trace := s.trace ++ wrapEvents s ((s.tick + n) / s.params.framePeriod) }

theorem wrapEvents_append (s : State) (j k : Nat) : wrapEvents s j ++ wrapEvents s k = wrapEvents s (j + k) := by
  rw [wrapEvents, wrapEvents, wrapEvents, List.replicate_append_replicate]
  split <;> rfl

theorem countTicks_zero {s : State} (hrange : s.tick < s.params.framePeriod) : countTicks 0 s = s := by
  simp [countTicks, wrapEvents, Nat.mod_eq_of_lt hrange, Nat.div_eq_of_lt hrange]

/-- One tick from a counter in range is the closed form's (R160). -/
theorem countTicks_one {s : State} (hrange : s.tick < s.params.framePeriod) : countTicks 1 s = tickCount s := by
  by_cases hwrap : s.tick + 1 = s.params.framePeriod
  · have hone : s.params.framePeriod / s.params.framePeriod = 1 := Nat.div_self (by omega)
    cases hen : nmiEn s with
    | true => simp [tickCount_wrap_enabled hwrap hen, countTicks, wrapEvents, emit, hwrap, hone, hen]
    | false => simp [tickCount_wrap_disabled hwrap hen, countTicks, wrapEvents, hwrap, hen]
  · have hlt : s.tick + 1 < s.params.framePeriod := by omega
    simp [tickCount_short hwrap, countTicks, wrapEvents, Nat.mod_eq_of_lt hlt, Nat.div_eq_of_lt hlt]

/-- Ticks add up: the later wraps are counted from where the earlier ticks left the counter. -/
theorem countTicks_countTicks (m n : Nat) {s : State} (hperiod : 0 < s.params.framePeriod) :
    countTicks n (countTicks m s) = countTicks (m + n) s := by
  have hwraps : (s.tick + m) / s.params.framePeriod + ((s.tick + m) % s.params.framePeriod + n) / s.params.framePeriod =
      (s.tick + (m + n)) / s.params.framePeriod := by
    rw [← Nat.mul_add_div hperiod, ← Nat.add_assoc, Nat.div_add_mod, Nat.add_assoc]
  have htrace : s.trace ++ wrapEvents s ((s.tick + m) / s.params.framePeriod) ++
      wrapEvents s (((s.tick + m) % s.params.framePeriod + n) / s.params.framePeriod) =
      s.trace ++ wrapEvents s ((s.tick + (m + n)) / s.params.framePeriod) := by
    rw [List.append_assoc, wrapEvents_append, hwraps]
  simp only [countTicks, Nat.mod_add_mod, Nat.add_assoc, ← htrace]
  rfl

/-- TICKs from a counter in range complete and leave what the closed form says (R164). -/
theorem execTimes_tick (n : Nat) {s : State} (hwired : s.wired = true) (hrange : s.tick < s.params.framePeriod) :
    ∃ r, execTimes .tick n s = .next { countTicks n s with response := r } := by
  induction n generalizing s with
  | zero => exact ⟨s.response, by rw [countTicks_zero hrange]; rfl⟩
  | succ n ih =>
    have hperiod := Nat.zero_lt_of_lt hrange
    obtain ⟨r, hticks⟩ := ih (s := { countTicks 1 s with response := .nothing }) hwired (Nat.mod_lt _ hperiod)
    refine ⟨r, ?_⟩
    rw [execTimes, exec_tick_wired hwired, ← countTicks_one hrange, Nat.add_comm n 1,
      ← countTicks_countTicks 1 n hperiod]
    exact hticks

/-- Settles O32: the closed form of `n` ticks, from zero. -/
theorem ticksWrapOncePerFrame : Obligations.TicksWrapOncePerFrame := by
  intro s n hwired hzero hperiod
  obtain ⟨r, hticks⟩ := execTimes_tick n hwired (by omega)
  have hcount : s.tick + n = n := by omega
  refine ⟨_, hticks, ?_, ?_, rfl⟩
  · rw [countTicks, hcount]
  · rw [countTicks, hcount]
    rfl

/-! ### The output events of a request -/

/-- What a request puts out (R240): the scroll report, the two forwarded audio writes, and the NMI of a wrap. -/
def newEvents (s : State) : Instr → List Event
  | .wrPpuscroll d => if d ≠ 0 then [.diagScroll d] else []
  | .wrAudioA d => [.apuWrite s.params.audioAddrA d]
  | .wrAudioB d => [.apuWrite s.params.audioAddrB d]
  | .tick =>
    if s.wired = true ∧ s.tick + 1 = s.params.framePeriod ∧ nmiEn s = true then [.nmi s.params.nmiArg] else []
  | _ => []

theorem trace_of_finish {u t : State} (h : finish u = .next t) : t.trace = u.trace := by
  rw [finish_next.mp h]

theorem trace_of_answer {b : Byte} {u t : State} (h : answer b u = .next t) : t.trace = u.trace := by
  rw [answer_next.mp h]

theorem trace_of_answerFrame {u t : State} (h : answerFrame u = .next t) : t.trace = u.trace := by
  rw [answerFrame_next.mp h]

theorem trace_of_raise {f : FaultRecord} {u t : State} (h : raise f u = .next t) : t.trace = u.trace := by
  rw [raise_next.mp h]

theorem trace_of_refuse {u t : State} (h : refuse u = .next t) : t.trace = u.trace := by
  rw [refuse_next.mp h]

/-- The trace of a tick, wired or not. -/
theorem exec_tick_trace {s t : State} (h : exec .tick s = .next t) : t.trace = s.trace ++ newEvents s .tick := by
  cases hwired : s.wired with
  | false =>
    rw [exec_tick_unwired hwired] at h
    simp [trace_of_raise h, newEvents, hwired]
  | true =>
    rw [exec_tick_wired hwired] at h
    simp only [trace_of_finish h, tickCount_trace, newEvents, hwired, true_and]
    split <;> simp

/-- Every request adds to the trace exactly its new events. -/
theorem exec_trace {i : Instr} {s t : State} (h : exec i s = .next t) : t.trace = s.trace ++ newEvents s i := by
  cases i with
  | tick => exact exec_tick_trace h
  | wrAudioA | wrAudioB => exact trace_of_finish h
  | wrPpuscroll d =>
    rw [trace_of_finish h, newEvents]
    split
    · rfl
    · exact (List.append_nil _).symm
  | rdPpustatus | rdJoy => simp [trace_of_answer h, newEvents]
  | rdUnmapped | wrUnmapped => simp [trace_of_raise h, newEvents]
  | reserved6 | reserved7 => simp [trace_of_refuse h, newEvents]
  | wrPpuctrl | wrPpumask | wrOamaddr | wrOamdata | wrJoystrobe | setInput | wireCpu =>
    simp [trace_of_finish h, newEvents]
  | wrPpuaddr d =>
    rw [trace_of_finish h]
    split <;> simp [newEvents]
  | rdPpudata =>
    cases hovf : s.vOvf with
    | true =>
      rw [exec_rdPpudata_overflowed hovf] at h
      simp [trace_of_raise h, newEvents]
    | false =>
      rw [exec_rdPpudata_inRange hovf] at h
      simp [trace_of_answer h, newEvents]
  | wrPpudata d =>
    cases hovf : s.vOvf with
    | true =>
      rw [exec_wrPpudata_overflowed d hovf] at h
      simp [trace_of_raise h, newEvents]
    | false =>
      rw [exec_wrPpudata_inRange d hovf] at h
      simp [trace_of_finish h, newEvents]
  | wrOamdma d =>
    by_cases hin : dmaInRange s d = true
    · rw [exec_wrOamdma_inRange hin] at h
      simp [trace_of_finish h, newEvents]
    · rw [exec_wrOamdma_outOfRange hin] at h
      simp [trace_of_raise h, newEvents]
  | render =>
    rw [exec, execRender] at h
    split at h
    · simp [trace_of_raise h, newEvents]
    · simp [trace_of_answerFrame h, newEvents]

/-- An NMI among a request's new events is that of a wrap, alone (R161, R243). -/
theorem nmi_mem_newEvents {i : Instr} {s : State} {b : Bool} (h : Event.nmi b ∈ newEvents s i) :
    i = .tick ∧ s.wired = true ∧ s.tick + 1 = s.params.framePeriod ∧ nmiEn s = true ∧
      newEvents s i = [.nmi s.params.nmiArg] := by
  cases i with
  | tick =>
    rw [newEvents] at h ⊢
    split at h
    · next hwrap =>
      obtain ⟨hwired, hperiod, hen⟩ := hwrap
      exact ⟨rfl, hwired, hperiod, hen, if_pos ⟨hwired, hperiod, hen⟩⟩
    · cases h
  | wrPpuscroll d =>
    rw [newEvents] at h
    split at h <;> simp at h
  | _ => simp [newEvents] at h

/-- Settles O33: the trace grows by the request's new events, and of these only a wrap's is an NMI. -/
theorem onlyAWrapAssertsNmi : Obligations.OnlyAWrapAssertsNmi :=
  fun _ _ _ h => ⟨_, exec_trace h, fun _ hb => nmi_mem_newEvents hb⟩

end Sys2Proof.Machine

/-! ## Proofs: rendering -/

namespace Sys2Proof.Machine

/-! ### The fields and bytes the renderer reads -/

/-- A two-bit field at the bottom of a byte, as a number. -/
theorem toNat_lowTwoBits (b : Byte) : (b.extractLsb' 0 2).toNat = b.toNat % 4 := by
  rw [BitVec.extractLsb'_toNat, Nat.shiftRight_zero]

/-- The nametable selected by `ppuctrl[1:0]`, as a number (R24, R181). -/
theorem nametableBase_eq (s : State) : nametableBase s = 0x2000 + 0x400 * (s.ppuctrl.toNat % 4) := by
  rw [nametableBase, ntSel, toNat_lowTwoBits]

/-- The palette group that the low two bits of a sprite's byte 2 name, as a number (R214, R219). -/
theorem spriteGroup_eq (a : Byte) : spriteGroup a = 4 + a.toNat % 4 := by
  rw [spriteGroup, toNat_lowTwoBits]

/-- A byte of the pattern image is the ROM's (R39). -/
theorem romByte_of_lt {s : State} {a : Nat} (h : a < 16384) : romByte s a = s.ptrom.read a := if_pos h

/-- Two bit-planes together as a number: plane 0 is the low bit (R185). -/
theorem toNat_twoPlanes (p1 p0 : Byte) (j : Nat) :
    (BitVec.ofBool (p1.getLsbD j) ++ BitVec.ofBool (p0.getLsbD j)).toNat =
      p0.toNat / 2 ^ j % 2 + 2 * (p1.toNat / 2 ^ j % 2) := by
  have htwo : ∀ p q : Bool, (BitVec.ofBool p ++ BitVec.ofBool q).toNat = q.toNat + 2 * p.toNat := by decide
  rw [htwo, BitVec.getLsbD, BitVec.getLsbD, Nat.toNat_testBit, Nat.toNat_testBit]

/-- Settles O36: the two planes are ROM bytes, and with the default stride the last of them is at most 0x1FFF. -/
theorem tilePixelReadsTheTwoPlanes : Obligations.TilePixelReadsTheTwoPlanes := by
  intro s k t r c base hr _ hbase
  refine ⟨fun hstride => ?_, fun hrom => ?_⟩
  · have htile := t.isLt
    have htable := k.toNat_le
    rw [hstride] at hbase
    omega
  · rw [tilePixel, ← hbase, romByte_of_lt (by omega), romByte_of_lt (by omega), toNat_twoPlanes]

/-- Settles O37: shifting by two bits a quadrant is dividing by a power of 4, and the field is the rest modulo 4. -/
theorem attributeGroupIsTheQuadrantField : Obligations.AttributeGroupIsTheQuadrantField := by
  intro s tx ty
  rw [attrGroup, attrByte, attrQuadrant, nametableBase_eq, Nat.shiftRight_eq_div_pow, Nat.pow_mul]
  exact Nat.and_two_pow_sub_one_eq_mod _ 2

/-- The colour of a lookup is the palette byte's low six bits (R186). -/
theorem paletteColor_toNat (s : State) (g : Nat) (i : PixelIndex) :
    (paletteColor s g i).toNat = (vramByte s (paletteAddr g i)).toNat % 64 :=
  BitVec.toNat_setWidth ..

/-- The record of a palette fault: the byte above 63 and its address, under COLOR_POLICY = fault (R186). -/
theorem paletteFault_eq_some_iff {s : State} {g : Nat} {i : PixelIndex} {f : FaultRecord} :
    paletteFault s g i = some f ↔
      s.params.colorPolicy = .fault ∧ 63 < (vramByte s (paletteAddr g i)).toNat ∧
        f = .colorIndexOutOfRange (paletteAddr g i) (vramByte s (paletteAddr g i)) := by
  unfold paletteFault
  by_cases hbyte : 63 < (vramByte s (paletteAddr g i)).toNat
  · cases s.params.colorPolicy <;> simp [hbyte, eq_comm]
  · simp [hbyte]

/-- Settles O38: the byte decides, and above 63 the policy. -/
theorem paletteLookupChecksTheByte : Obligations.PaletteLookupChecksTheByte := by
  rintro s g i e rfl
  refine ⟨fun hbyte => ⟨paletteFault_eq_none (.inr hbyte), ?_⟩, fun hbyte hpolicy => ?_, fun _ hpolicy => ?_⟩
  · rw [paletteColor_toNat]
    exact Nat.mod_eq_of_lt (Nat.lt_succ_of_le hbyte)
  · exact paletteFault_eq_some_iff.mpr ⟨hpolicy, hbyte, rfl⟩
  · exact ⟨paletteFault_eq_none (.inl hpolicy), paletteColor_toNat s g i⟩


/-! ### How a RENDER ends -/

/-- A RENDER that raises nothing leaves its frame and returns the reference (R210). -/
theorem exec_render_frame {s : State} (h : renderFault s = none) :
    exec .render s = answerFrame { s with fbi := renderFrame s, fbValid := true } := by
  simp [exec, execRender, h]

/-- A RENDER that returns the frame reference has raised nothing, and its next state is known. -/
theorem exec_render_completed {s t : State} (h : exec .render s = .next t) (hframe : t.response = .frame) :
    renderFault s = none ∧ t = { s with fbi := renderFrame s, fbValid := true, response := .frame } := by
  cases hfault : renderFault s with
  | some f =>
    rw [exec_render_fault hfault] at h
    rw [raise_next.mp h] at hframe
    cases hframe
  | none =>
    rw [exec_render_frame hfault] at h
    exact ⟨rfl, answerFrame_next.mp h⟩

/-- The state after a RENDER that faults: besides the record only the unsaid frame and its counter change (R210). -/
theorem exec_render_fault_next {s : State} {f : FaultRecord} (h : renderFault s = some f) :
    exec .render s = .next { s with
      fault := some f, fbi := Frame.free s.freeCount, freeCount := s.freeCount + 1, response := .nothing } := by
  rw [exec_render_fault h, raise, spoilFrame]

theorem exec_render_records {s : State} {f : FaultRecord} (h : renderFault s = some f) :
    ∃ t, exec .render s = .next t ∧
      t = { s with fault := some f, fbi := t.fbi, freeCount := t.freeCount, response := .nothing } :=
  ⟨_, exec_render_fault_next h, rfl⟩

theorem renderFrame_pixel (s : State) (x : Fin 256) (y : Fin 240) :
    (renderFrame s).pixel x y = overlay s x y (backgroundColor s x y) :=
  Frame.pixel_tabulate ..

/-- The background's fault is RENDER's (R247). -/
theorem renderFault_of_background {s : State} {f : FaultRecord} (h : backgroundFault s = some f) :
    renderFault s = some f := by
  rw [renderFault, h, Option.some_or]

/-! ### Painting in order -/

/-- Overwriting along a list of optional values that are each none or `o`: `o` is left, if it comes up or changes
nothing. -/
theorem foldl_getD_eq {α β : Type} {f : α → Option β} {o : Option β} {l : List α}
    (hall : ∀ a ∈ l, f a = none ∨ f a = o) {b : β} (hsome : o.getD b = b ∨ ∃ a ∈ l, f a = o) :
    l.foldl (fun c a => (f a).getD c) b = o.getD b := by
  induction l generalizing b with
  | nil => simpa [eq_comm] using hsome
  | cons a l ih =>
    obtain ⟨ha, hl⟩ := List.forall_mem_cons.mp hall
    by_cases hao : f a = o
    · have hkept : o.getD (o.getD b) = o.getD b := by cases o <;> rfl
      rw [List.foldl_cons, hao, ih hl (.inl hkept), hkept]
    · have hnone : f a = none := ha.resolve_right hao
      have hlater : o.getD b = b ∨ ∃ a ∈ l, f a = o := by simpa [hao] using hsome
      rw [List.foldl_cons, hnone, Option.getD_none, ih hl hlater]

/-- Where no sprite is opaque the overlay leaves what is below it (R222). -/
theorem overlay_of_transparent {s : State} {x y : Nat} {below : Color}
    (h : ∀ n < 64, spriteColor s n x y = none) : overlay s x y below = below :=
  foldl_getD_eq (o := none) (fun n hn => .inl (h n (List.mem_range.mp hn))) (.inl rfl)

/-- Settles O55: the fetch is the definition of a background pixel, and the overlay leaves it where no sprite is
opaque. -/
theorem backgroundPixelsAreTheFetchedTiles : Obligations.BackgroundPixelsAreTheFetchedTiles := by
  intro s x y i hi
  have hcell : i = cellPixel s (x / 8) (y / 8) (y % 8) (x % 8) := by
    rw [hi, cellPixel, tileIndex, nametableBase_eq]
    rfl
  have hcolor : backgroundColor s x y = paletteColor s (attrGroup s (x / 8) (y / 8)) i := by
    rw [backgroundColor, ← hcell]
  refine ⟨hcolor, ?_, fun t ht hframe hclear => ?_⟩
  · rw [hcolor]
    exact paletteColor_toNat ..
  · obtain ⟨-, rfl⟩ := exec_render_completed ht hframe
    rw [renderFrame_pixel, overlay_of_transparent hclear, hcolor]

/-! ### The spec's two loops -/

/-- A loop whose turn at `a` stops with `flt a`, or else goes on with `paint`: it stops with the first fault in its order,
or else has painted all of it. -/
theorem foldlM_stops_at_first {α β ε : Type} {turn : β → α → Except ε β} {flt : α → Option ε} {paint : β → α → β}
    (hturn : ∀ b a, turn b a = (flt a).elim (.ok (paint b a)) .error) (l : List α) (b : β) :
    l.foldlM turn b = (l.findSome? flt).elim (.ok (l.foldl paint b)) .error := by
  induction l generalizing b with
  | nil => rfl
  | cons a l ih =>
    rw [List.foldlM_cons, hturn, List.findSome?_cons, List.foldl_cons]
    cases flt a with
    | some e => rfl
    | none => exact ih _

/-- Paints the pixel at column `x`, row `y`, if the frame has it. -/
def Frame.paintAt (fr : Frame) (x y : Nat) (c : Color) : Frame :=
  if h : x < 256 ∧ y < 240 then fr.paint ⟨x, h.1⟩ ⟨y, h.2⟩ c else fr

theorem Frame.pixel_paintAt (fr : Frame) (x y : Nat) (c : Color) (x' : Fin 256) (y' : Fin 240) :
    (fr.paintAt x y c).pixel x' y' = if x = x' ∧ y = y' then c else fr.pixel x' y' := by
  unfold Frame.paintAt
  split
  · simp only [Frame.pixel_paint, Fin.ext_iff, eq_comm]
  · next hout =>
    rw [if_neg]
    rintro ⟨rfl, rfl⟩
    exact hout ⟨x'.isLt, y'.isLt⟩

/-- What one turn of the background loop paints. -/
def backgroundPaint (s : State) (fr : Frame) (k : BgStep) : Frame :=
  fr.paintAt (8 * k.tx + k.c) (8 * k.ty + k.r)
    (paletteColor s (attrGroup s k.tx k.ty) (cellPixel s k.tx k.ty k.r k.c))

theorem backgroundTurn_eq (s : State) (fr : Frame) (k : BgStep) :
    backgroundTurn s fr k = (backgroundStepFault s k).elim (.ok (backgroundPaint s fr k)) .error := by
  unfold backgroundTurn
  split <;> next h => rw [h]; rfl

/-- The colour that one turn of the background loop gives the pixel at column `x`, row `y`, if it paints there. -/
def backgroundStepColor (s : State) (x y : Nat) (k : BgStep) : Option Color :=
  if 8 * k.tx + k.c = x ∧ 8 * k.ty + k.r = y then
    some (paletteColor s (attrGroup s k.tx k.ty) (cellPixel s k.tx k.ty k.r k.c))
  else none

theorem backgroundPaint_pixel (s : State) (fr : Frame) (k : BgStep) (x : Fin 256) (y : Fin 240) :
    (backgroundPaint s fr k).pixel x y = (backgroundStepColor s x y k).getD (fr.pixel x y) := by
  rw [backgroundPaint, Frame.pixel_paintAt, backgroundStepColor]
  split <;> rfl

/-- A pixel lies in one cell alone, so a turn paints nothing there or the background's colour (R187). -/
theorem backgroundStepColor_cases {s : State} {x y : Nat} {k : BgStep} (hk : k ∈ backgroundOrder) :
    backgroundStepColor s x y k = none ∨ backgroundStepColor s x y k = some (backgroundColor s x y) := by
  obtain ⟨-, -, hr, hc⟩ := (mem_backgroundOrder k).mp hk
  unfold backgroundStepColor
  split
  · next h =>
    obtain ⟨hx, hy⟩ := h
    have hcol : x / 8 = k.tx ∧ x % 8 = k.c := by omega
    have hrow : y / 8 = k.ty ∧ y % 8 = k.r := by omega
    rw [backgroundColor, hcol.1, hcol.2, hrow.1, hrow.2]
    exact .inr rfl
  · exact .inl rfl

/-- The turn for a pixel's own cell paints it. -/
theorem backgroundStepColor_of_cell (s : State) (x y : Nat) :
    backgroundStepColor s x y ⟨y / 8, x / 8, y % 8, x % 8⟩ = some (backgroundColor s x y) :=
  if_pos ⟨Nat.div_add_mod x 8, Nat.div_add_mod y 8⟩

/-- After all its turns the background loop leaves the background's colour at every pixel (R180). -/
theorem backgroundPaint_all (s : State) (fr : Frame) (x : Fin 256) (y : Fin 240) :
    (backgroundOrder.foldl (backgroundPaint s) fr).pixel x y = backgroundColor s x y := by
  have hcell : (⟨y / 8, x / 8, y % 8, x % 8⟩ : BgStep) ∈ backgroundOrder := by
    rw [mem_backgroundOrder]
    dsimp only
    omega
  calc (backgroundOrder.foldl (backgroundPaint s) fr).pixel x y
      = backgroundOrder.foldl (fun c k => (backgroundStepColor s x y k).getD c) (fr.pixel x y) :=
        (List.foldl_hom (·.pixel x y) fun fr k => (backgroundPaint_pixel s fr k x y).symm).symm
    _ = (some (backgroundColor s x y)).getD (fr.pixel x y) :=
        foldl_getD_eq (fun _ hk => backgroundStepColor_cases hk)
          (.inr ⟨_, hcell, backgroundStepColor_of_cell s x y⟩)

/-- The background loop stops at the background's fault, or leaves the background's colours (R180, R247). -/
theorem backgroundLoop_eq (s : State) (fr : Frame) :
    backgroundLoop s fr =
      (backgroundFault s).elim (.ok (backgroundOrder.foldl (backgroundPaint s) fr)) .error := by
  rw [backgroundFault_eq_search]
  exact foldlM_stops_at_first (backgroundTurn_eq s) ..

/-- What one turn of the sprite loop paints. -/
def spritePaint (s : State) (fr : Frame) (k : SpriteStep) : Frame :=
  if spriteHidden s k.n ∨ spritePixel s k.n k.r k.c = 0 then fr
  else fr.paintAt (spriteColumn s k.n k.c) (spriteRow s k.n k.r)
    (paletteColor s (spriteGroup (spriteAttr s k.n)) (spritePixel s k.n k.r k.c))

theorem spriteTurn_eq (s : State) (fr : Frame) (k : SpriteStep) :
    spriteTurn s fr k = (spriteStepFault s k).elim (.ok (spritePaint s fr k)) .error := by
  unfold spriteTurn
  split <;> next h => rw [h]; rfl

/-- The colour of row `r`, column `c` of sprite `n`: none where the sprite is hidden or transparent (R217, R220). -/
def spriteCellColor (s : State) (n r c : Nat) : Option Color :=
  if spriteHidden s n ∨ spritePixel s n r c = 0 then none
  else some (paletteColor s (spriteGroup (spriteAttr s n)) (spritePixel s n r c))

/-- A sprite paints at column `x`, row `y` the colour of the one of its pixels that lands there (R221). -/
theorem spriteColor_of_lands {s : State} {n r c x y : Nat} (hr : r < 8) (hc : c < 8) (hx : spriteColumn s n c = x)
    (hy : spriteRow s n r = y) : spriteColor s n x y = spriteCellColor s n r c := by
  have hbox : spriteColumn s n 0 ≤ x ∧ x < spriteColumn s n 8 ∧ spriteRow s n 0 ≤ y ∧ y < spriteRow s n 8 := by
    simp only [spriteColumn, spriteRow] at hx hy ⊢
    omega
  have hcol : x - spriteColumn s n 0 = c := by simp only [spriteColumn] at hx ⊢; omega
  have hrow : y - spriteRow s n 0 = r := by simp only [spriteRow] at hy ⊢; omega
  rw [spriteColor, if_pos hbox, hcol, hrow, spriteCellColor]
  by_cases hhid : spriteHidden s n = true <;> simp [hhid]

/-- Where a sprite paints, one of its pixels lands (R221). -/
theorem lands_of_spriteColor {s : State} {n x y : Nat} (h : spriteColor s n x y ≠ none) :
    ∃ r < 8, ∃ c < 8, spriteColumn s n c = x ∧ spriteRow s n r = y := by
  have hbox : spriteColumn s n 0 ≤ x ∧ x < spriteColumn s n 8 ∧ spriteRow s n 0 ≤ y ∧ y < spriteRow s n 8 := by
    by_contra hout
    rw [spriteColor, if_neg hout, ite_self] at h
    exact h rfl
  refine ⟨y - spriteRow s n 0, ?_, x - spriteColumn s n 0, ?_⟩
  all_goals
    simp only [spriteColumn, spriteRow] at hbox ⊢
    omega

/-- The colour that one turn of the sprite loop gives the pixel at column `x`, row `y`, if it paints there. -/
def spriteStepColor (s : State) (x y : Nat) (k : SpriteStep) : Option Color :=
  if spriteColumn s k.n k.c = x ∧ spriteRow s k.n k.r = y then spriteCellColor s k.n k.r k.c else none

theorem spritePaint_pixel (s : State) (fr : Frame) (k : SpriteStep) (x : Fin 256) (y : Fin 240) :
    (spritePaint s fr k).pixel x y = (spriteStepColor s x y k).getD (fr.pixel x y) := by
  unfold spritePaint spriteStepColor spriteCellColor
  split
  · rw [ite_self]
    rfl
  · rw [Frame.pixel_paintAt]
    split <;> rfl

/-- The turns of one sprite: pixel row, then column (R212). -/
def spriteSteps (n : Nat) : List SpriteStep :=
  (List.range 8).flatMap fun r => (List.range 8).map fun c => ⟨n, r, c⟩

theorem mem_spriteSteps {n : Nat} {k : SpriteStep} : k ∈ spriteSteps n ↔ k.n = n ∧ k.r < 8 ∧ k.c < 8 := by
  obtain ⟨m, r, c⟩ := k
  simp only [spriteSteps, List.mem_flatMap, List.mem_map, List.mem_range, SpriteStep.mk.injEq]
  constructor
  · rintro ⟨_, hr, _, hc, rfl, rfl, rfl⟩
    exact ⟨rfl, hr, hc⟩
  · rintro ⟨rfl, hr, hc⟩
    exact ⟨r, hr, c, hc, rfl, rfl, rfl⟩

theorem spriteOrder_eq : spriteOrder = (List.range 64).flatMap spriteSteps := by
  unfold spriteOrder
  rfl

/-- The turns of one sprite leave at a pixel what the sprite paints there. -/
theorem spriteSteps_color (s : State) (n x y : Nat) (below : Color) :
    (spriteSteps n).foldl (fun c k => (spriteStepColor s x y k).getD c) below =
      (spriteColor s n x y).getD below := by
  refine foldl_getD_eq (fun k hk => ?_) ?_
  · obtain ⟨rfl, hr, hc⟩ := mem_spriteSteps.mp hk
    by_cases hland : spriteColumn s k.n k.c = x ∧ spriteRow s k.n k.r = y
    · rw [spriteStepColor, if_pos hland]
      exact .inr (spriteColor_of_lands hr hc hland.1 hland.2).symm
    · exact .inl (if_neg hland)
  · by_cases hnone : spriteColor s n x y = none
    · exact .inl (by rw [hnone, Option.getD_none])
    · obtain ⟨r, hr, c, hc, hx, hy⟩ := lands_of_spriteColor hnone
      refine .inr ⟨⟨n, r, c⟩, mem_spriteSteps.mpr ⟨rfl, hr, hc⟩, ?_⟩
      rw [spriteColor_of_lands hr hc hx hy]
      exact if_pos ⟨hx, hy⟩

/-- After all its turns the sprite loop leaves the sprites over the frame it was given (R212, R220, R222). -/
theorem spritePaint_all (s : State) (fr : Frame) (x : Fin 256) (y : Fin 240) :
    (spriteOrder.foldl (spritePaint s) fr).pixel x y = overlay s x y (fr.pixel x y) := by
  calc (spriteOrder.foldl (spritePaint s) fr).pixel x y
      = spriteOrder.foldl (fun c k => (spriteStepColor s x y k).getD c) (fr.pixel x y) :=
        (List.foldl_hom (·.pixel x y) fun fr k => (spritePaint_pixel s fr k x y).symm).symm
    _ = (List.range 64).foldl
          (fun c n => (spriteSteps n).foldl (fun c k => (spriteStepColor s x y k).getD c) c) (fr.pixel x y) := by
        rw [spriteOrder_eq, List.foldl_flatMap]
    _ = overlay s x y (fr.pixel x y) :=
        List.foldl_ext _ _ _ fun below n _ => spriteSteps_color s n x y below

/-- The sprite loop stops at the sprite pass's fault, or leaves the sprites painted (R212, R215, R247). -/
theorem spriteLoop_eq (s : State) (fr : Frame) :
    spriteLoop s fr = (spriteFault s).elim (.ok (spriteOrder.foldl (spritePaint s) fr)) .error := by
  cases hsize : sprSize s with
  | true => rw [spriteLoop, spriteFault, if_pos hsize, if_pos hsize]; rfl
  | false =>
    rw [spriteFault_eq_search s hsize, spriteLoop, if_neg (by simp [hsize])]
    exact foldlM_stops_at_first (spriteTurn_eq s) ..

/-- The two loops stop at RENDER's fault, or leave RENDER's frame (R210, R211). -/
theorem renderLoop_eq (s : State) : renderLoop s = (renderFault s).elim (.ok (renderFrame s)) .error := by
  have hframe : spriteOrder.foldl (spritePaint s) (backgroundOrder.foldl (backgroundPaint s) s.fbi) = renderFrame s :=
    Frame.ext_pixel fun x y => by rw [spritePaint_all, backgroundPaint_all, renderFrame_pixel]
  rw [renderLoop, backgroundLoop_eq, renderFault]
  cases backgroundFault s with
  | some f => rfl
  | none =>
    rw [Option.none_or, ← hframe]
    exact spriteLoop_eq s _

/-- Settles O41: the loops end as RENDER does, at its fault or with its frame. -/
theorem renderIsTheSpecsTwoLoops : Obligations.RenderIsTheSpecsTwoLoops := by
  intro s
  rw [renderLoop_eq]
  cases hfault : renderFault s with
  | some f =>
    refine ⟨fun g hg => ?_, nofun⟩
    cases hg
    exact exec_render_fault_next hfault
  | none =>
    refine ⟨nofun, fun fr hg => ?_⟩
    cases hg
    exact exec_render_frame hfault

/-! ### The first fault of each pass -/

/-- The background pass raises the fault of a step that raises one when no earlier step does (R247). -/
theorem backgroundFault_first {s : State} {k : BgStep} {f : FaultRecord} (hk : k ∈ backgroundOrder)
    (hf : backgroundStepFault s k = some f)
    (first : ∀ a ∈ backgroundOrder, a.place < k.place → backgroundStepFault s a = none) :
    backgroundFault s = some f := by
  rw [backgroundFault_eq_search]
  exact findSome?_first backgroundOrder_sorted hk hf first

/-- The sprite pass likewise, past the check for 8 by 16 sprites (R215, R247). -/
theorem spriteFault_first {s : State} {k : SpriteStep} {f : FaultRecord} (hsize : sprSize s = false)
    (hk : k ∈ spriteOrder) (hf : spriteStepFault s k = some f)
    (first : ∀ a ∈ spriteOrder, a.place < k.place → spriteStepFault s a = none) : spriteFault s = some f := by
  rw [spriteFault_eq_search s hsize]
  exact findSome?_first spriteOrder_sorted hk hf first

/-- Where some step of the background pass raises a fault, the pass raises the fault of one of its steps. -/
theorem backgroundFault_of_step {s : State} {k : BgStep} {f : FaultRecord} (hk : k ∈ backgroundOrder)
    (hf : backgroundStepFault s k = some f) :
    ∃ a g, backgroundStepFault s a = some g ∧ backgroundFault s = some g := by
  have hsome : (backgroundOrder.findSome? (backgroundStepFault s)).isSome :=
    List.findSome?_isSome_iff.mpr ⟨k, hk, by rw [hf, Option.isSome_some]⟩
  obtain ⟨g, hg⟩ := Option.isSome_iff_exists.mp hsome
  obtain ⟨a, -, ha⟩ := List.exists_of_findSome?_eq_some hg
  exact ⟨a, g, ha, (backgroundFault_eq_search s).trans hg⟩

/-- A background cell reads one of the sixteen palette bytes from 0x3F00 (R183, R186). -/
theorem backgroundPaletteAddr_range (s : State) (tx ty : Nat) (i : PixelIndex) :
    0x3F00 ≤ paletteAddr (attrGroup s tx ty) i ∧ paletteAddr (attrGroup s tx ty) i ≤ 0x3F0F := by
  have hgroup := attrGroup_lt s tx ty
  have hindex := i.isLt
  unfold paletteAddr
  omega

/-- Settles O45: the background pass raises the fault of a step, the first in its order, and RENDER records it. -/
theorem backgroundColorFaultComesFirst : Obligations.BackgroundColorFaultComesFirst := by
  intro s adr hadr hpolicy tx htx ty hty r hr c hc hbyte
  obtain rfl : adr = fun tx ty r c => paletteAddr (attrGroup s tx ty) (cellPixel s tx ty r c) := by
    funext tx ty r c
    rw [hadr, cellPixel, tileIndex, nametableBase_eq]
    rfl
  have hk : ⟨ty, tx, r, c⟩ ∈ backgroundOrder := (mem_backgroundOrder _).mpr ⟨hty, htx, hr, hc⟩
  have hstep : backgroundStepFault s ⟨ty, tx, r, c⟩ = some _ := paletteFault_eq_some_iff.mpr ⟨hpolicy, hbyte, rfl⟩
  refine ⟨?_, fun hfirst => exec_render_records (renderFault_of_background (backgroundFault_first hk hstep ?_))⟩
  · obtain ⟨a, g, ha, hg⟩ := backgroundFault_of_step hk hstep
    obtain ⟨-, habyte, rfl⟩ := paletteFault_eq_some_iff.mp ha
    obtain ⟨hlow, hhigh⟩ := backgroundPaletteAddr_range s a.tx a.ty (cellPixel s a.tx a.ty a.r a.c)
    exact ⟨_, _, _, exec_render_fault (renderFault_of_background hg), rfl, hlow, hhigh, rfl, habyte, rfl⟩
  · intro a ha hplace
    obtain ⟨haty, hatx, har, hac⟩ := (mem_backgroundOrder a).mp ha
    refine paletteFault_eq_none (.inr (hfirst a.tx hatx a.ty haty a.r har a.c hac ?_))
    simp only [BgStep.place] at hplace
    omega

/-! ### The faults of a sprite's pixel -/

theorem spriteHidden_iff (s : State) (n : Nat) : spriteHidden s n = true ↔ oamByte s (4 * n) = 255 := beq_iff_eq

theorem spriteOffScreen_iff (s : State) (k : SpriteStep) :
    spriteOffScreen s k = true ↔ 255 < spriteColumn s k.n k.c ∨ 239 < spriteRow s k.n k.r := by
  simp [spriteOffScreen]

/-- A pixel of a sprite raises nothing when the sprite is hidden, the pixel transparent, clipped past the edge, or on the
screen with a palette byte that is masked or at most 63 (R186, R217, R220, R221). -/
theorem spriteStepFault_eq_none {s : State} {k : SpriteStep}
    (h : oamByte s (4 * k.n) = 255 ∨ spritePixel s k.n k.r k.c = 0 ∨
      if 255 < spriteColumn s k.n k.c ∨ 239 < spriteRow s k.n k.r then s.params.spriteEdge = .clip
      else s.params.colorPolicy = .mask6 ∨
        (vramByte s (paletteAddr (spriteGroup (spriteAttr s k.n)) (spritePixel s k.n k.r k.c))).toNat ≤ 63) :
    spriteStepFault s k = none := by
  simp only [← spriteHidden_iff, ← spriteOffScreen_iff] at h
  unfold spriteStepFault
  split
  · rfl
  · next hshown =>
    split
    · rfl
    · next hopaque =>
      have hrest := (h.resolve_left hshown).resolve_left hopaque
      split
      · next hoff => rw [if_pos hoff] at hrest; rw [hrest]
      · next hon => rw [if_neg hon] at hrest; exact paletteFault_eq_none hrest

/-- An opaque pixel of a shown sprite past the edge raises SPRITE_OFF_SCREEN under SPRITE_EDGE = fault (R221). -/
theorem spriteStepFault_off {s : State} {k : SpriteStep} (hshown : oamByte s (4 * k.n) ≠ 255)
    (hopaque : spritePixel s k.n k.r k.c ≠ 0) (hoff : 255 < spriteColumn s k.n k.c ∨ 239 < spriteRow s k.n k.r)
    (hedge : s.params.spriteEdge = .fault) : spriteStepFault s k = some (.spriteOffScreen k.n) := by
  rw [← spriteOffScreen_iff] at hoff
  rw [ne_eq, ← spriteHidden_iff] at hshown
  rw [spriteStepFault, if_neg hshown, if_neg hopaque, if_pos hoff, hedge]

/-- On the screen it raises what its palette lookup raises (R186, R212). -/
theorem spriteStepFault_on {s : State} {k : SpriteStep} (hshown : oamByte s (4 * k.n) ≠ 255)
    (hopaque : spritePixel s k.n k.r k.c ≠ 0) (hon : ¬ (255 < spriteColumn s k.n k.c ∨ 239 < spriteRow s k.n k.r)) :
    spriteStepFault s k = paletteFault s (spriteGroup (spriteAttr s k.n)) (spritePixel s k.n k.r k.c) := by
  rw [← spriteOffScreen_iff] at hon
  rw [ne_eq, ← spriteHidden_iff] at hshown
  rw [spriteStepFault, if_neg hshown, if_neg hopaque, if_neg hon]

/-- Settles O56: the background raises nothing, and the pixel's step is the first of the sprite pass that raises. -/
theorem spritePassRaisesItsFirstFault : Obligations.SpritePassRaisesItsFirstFault := by
  intro s pix col row pal hpix hcol hrow hpal hsize hpalette n hn r hr c hc hshown hopaque hfirst
  obtain rfl : pix = spritePixel s := by funext n r c; exact hpix n r c
  obtain rfl : col = spriteColumn s := by funext n c; exact hcol n c
  obtain rfl : row = spriteRow s := by funext n r; exact hrow n r
  obtain rfl : pal = fun n r c => paletteAddr (spriteGroup (spriteAttr s n)) (spritePixel s n r c) := by
    funext n r c
    rw [hpal, spriteGroup_eq]
    rfl
  have hrender : ∀ f, spriteStepFault s ⟨n, r, c⟩ = some f → renderFault s = some f := fun f hf => by
    rw [renderFault, backgroundFault_eq_none hpalette, Option.none_or]
    refine spriteFault_first hsize ((mem_spriteOrder _).mpr ⟨hn, hr, hc⟩) hf fun a ha hplace => ?_
    obtain ⟨han, har, hac⟩ := (mem_spriteOrder a).mp ha
    refine spriteStepFault_eq_none (hfirst a.n han a.r har a.c hac ?_)
    simp only [SpriteStep.place] at hplace
    omega
  refine ⟨fun hoff hedge => ?_, fun hx hy hpolicy hbyte => ?_⟩
  · have hfault : spriteStepFault s ⟨n, r, c⟩ = some (.spriteOffScreen n) :=
      spriteStepFault_off hshown hopaque hoff hedge
    exact exec_render_records (hrender _ hfault)
  · have hon : ¬ (255 < spriteColumn s n c ∨ 239 < spriteRow s n r) := by omega
    have hstep : spriteStepFault s ⟨n, r, c⟩ = paletteFault s (spriteGroup (spriteAttr s n)) (spritePixel s n r c) :=
      spriteStepFault_on hshown hopaque hon
    exact exec_render_records (hrender _ (hstep.trans (paletteFault_eq_some_iff.mpr ⟨hpolicy, hbyte, rfl⟩)))

/-! ### A RENDER that completes -/

/-- With 8 by 8 sprites the sprite pass raises nothing when its sixteen palette bytes are masked or at most 63, and the
sprites clipped past the edge, hidden or inside (R186, R217, R221). -/
theorem spriteFault_eq_none {s : State} (hsize : sprSize s = false)
    (hpalette : s.params.colorPolicy = .mask6 ∨ ∀ k < 32, (vramByte s (0x3F00 + k)).toNat ≤ 63)
    (hedge : s.params.spriteEdge = .clip ∨ ∀ n < 64, oamByte s (4 * n) = 255 ∨
      ((oamByte s (4 * n + 3)).toNat ≤ 248 ∧ (oamByte s (4 * n)).toNat + s.params.spriteYOffset.val ≤ 232)) :
    spriteFault s = none := by
  rw [spriteFault_eq_search s hsize, List.findSome?_eq_none_iff]
  intro k hk
  obtain ⟨hn, hr, hc⟩ := (mem_spriteOrder k).mp hk
  apply spriteStepFault_eq_none
  by_cases hhidden : oamByte s (4 * k.n) = 255
  · exact .inl hhidden
  refine .inr (.inr ?_)
  split
  · next hoff =>
    refine hedge.resolve_right fun hinside => ?_
    obtain ⟨hx, hy⟩ := (hinside k.n hn).resolve_left hhidden
    simp only [spriteColumn, spriteX, spriteRow, spriteY] at hoff
    omega
  · refine hpalette.imp_right fun hbytes => ?_
    have hgroup := spriteGroup_range (spriteAttr s k.n)
    have hindex := (spritePixel s k.n k.r k.c).isLt
    rw [paletteAddr, Nat.add_assoc]
    exact hbytes _ (by omega)

/-- Settles O40: neither pass raises anything, so RENDER leaves its frame. -/
theorem renderCompletesOnACleanPalette : Obligations.RenderCompletesOnACleanPalette := by
  intro s hsize hpalette hedge
  have hbackground : backgroundFault s = none :=
    backgroundFault_eq_none (hpalette.imp_right fun hbytes k hk => hbytes k (by omega))
  have hfault : renderFault s = none := by
    rw [renderFault, hbackground, spriteFault_eq_none hsize hpalette hedge, Option.none_or]
  exact ⟨_, exec_render_frame hfault, rfl, renderFrame_pixel s⟩

/-! ### What a RENDER depends on -/

/-- Two states agree on what R232 lists for the colour indices of a frame. -/
structure SameRenderInputs (s t : State) : Prop where
  ntSel_eq         : ntSel s = ntSel t
  sprPt_eq         : sprPt s = sprPt t
  bgPt_eq          : bgPt s = bgPt t
  sprSize_eq       : sprSize s = sprSize t
  nametable_eq     : ∀ a, 0x2000 ≤ a → a ≤ 0x2FFF → vramByte s a = vramByte t a
  palette_eq       : ∀ a, 0x3F00 ≤ a → a ≤ 0x3F1F → vramByte s a = vramByte t a
  oam_eq           : ∀ a < 256, oamByte s a = oamByte t a
  rom_eq           : ∀ a < 16384, s.ptrom.read a = t.ptrom.read a
  ptStride_eq      : s.params.ptStride = t.params.ptStride
  spriteYOffset_eq : s.params.spriteYOffset = t.params.spriteYOffset
  spriteEdge_eq    : s.params.spriteEdge = t.params.spriteEdge
  colorPolicy_eq   : s.params.colorPolicy = t.params.colorPolicy

/-- Searches that agree on the members of a list find the same. -/
theorem findSome?_congr_mem {α β : Type} {f g : α → Option β} {l : List α} (h : ∀ a ∈ l, f a = g a) :
    l.findSome? f = l.findSome? g := by
  rw [← List.head?_filterMap, ← List.head?_filterMap, List.filterMap_congr h]

namespace SameRenderInputs

variable {s t : State} (h : SameRenderInputs s t)
include h

/-! The bytes and fields both passes read. -/

theorem nametableBase_eq : nametableBase s = nametableBase t := by
  rw [nametableBase, h.ntSel_eq, nametableBase]

/-- A byte of the selected nametable, the palette-group bytes at its end included, is one of 0x2000 to 0x2FFF (R181,
R183). -/
theorem nametableByte_eq {k : Nat} (hk : k < 0x400) :
    vramByte s (nametableBase s + k) = vramByte t (nametableBase t + k) := by
  have hsel := (ntSel t).isLt
  rw [h.nametableBase_eq]
  apply h.nametable_eq <;> unfold nametableBase <;> omega

/-- Past the image both read the same free value (log entry 12). -/
theorem romByte_eq (a : Nat) : romByte s a = romByte t a := by
  unfold romByte
  split
  · next ha => exact h.rom_eq a ha
  · rfl

theorem tilePixel_eq (k : Bool) (b : Byte) (r c : Nat) : tilePixel s k b r c = tilePixel t k b r c := by
  simp only [tilePixel, h.ptStride_eq, h.romByte_eq]

theorem paletteByte_eq {g : Nat} (hg : g < 8) (i : PixelIndex) :
    vramByte s (paletteAddr g i) = vramByte t (paletteAddr g i) := by
  have hi := i.isLt
  apply h.palette_eq <;> unfold paletteAddr <;> omega

theorem paletteColor_eq {g : Nat} (hg : g < 8) (i : PixelIndex) : paletteColor s g i = paletteColor t g i := by
  rw [paletteColor, h.paletteByte_eq hg, paletteColor]

theorem paletteFault_eq {g : Nat} (hg : g < 8) (i : PixelIndex) : paletteFault s g i = paletteFault t g i := by
  simp only [paletteFault, h.paletteByte_eq hg, h.colorPolicy_eq]

/-! The background pass. -/

theorem attrGroup_eq {tx ty : Nat} (htx : tx < 32) (hty : ty < 30) : attrGroup s tx ty = attrGroup t tx ty := by
  simp only [attrGroup, attrByte, Nat.add_assoc]
  rw [h.nametableByte_eq (by omega)]

theorem cellPixel_eq {tx ty : Nat} (htx : tx < 32) (hty : ty < 30) (r c : Nat) :
    cellPixel s tx ty r c = cellPixel t tx ty r c := by
  simp only [cellPixel, tileIndex, Nat.add_assoc]
  rw [h.nametableByte_eq (by omega), h.bgPt_eq, h.tilePixel_eq]

theorem backgroundFault_eq : backgroundFault s = backgroundFault t := by
  rw [backgroundFault_eq_search, backgroundFault_eq_search]
  refine findSome?_congr_mem fun k hk => ?_
  obtain ⟨hty, htx, -, -⟩ := (mem_backgroundOrder k).mp hk
  rw [backgroundStepFault, h.attrGroup_eq htx hty, h.cellPixel_eq htx hty, h.paletteFault_eq, backgroundStepFault]
  exact Nat.lt_trans (attrGroup_lt t k.tx k.ty) (by decide)

theorem backgroundColor_eq {x y : Nat} (hx : x < 256) (hy : y < 240) :
    backgroundColor s x y = backgroundColor t x y := by
  have htx : x / 8 < 32 := by omega
  have hty : y / 8 < 30 := by omega
  rw [backgroundColor, h.attrGroup_eq htx hty, h.cellPixel_eq htx hty, h.paletteColor_eq, backgroundColor]
  exact Nat.lt_trans (attrGroup_lt t (x / 8) (y / 8)) (by decide)

/-! The sprite pass. -/

theorem spriteAttr_eq {n : Nat} (hn : n < 64) : spriteAttr s n = spriteAttr t n := h.oam_eq _ (by omega)

theorem spriteHidden_eq {n : Nat} (hn : n < 64) : spriteHidden s n = spriteHidden t n := by
  rw [spriteHidden, spriteY, h.oam_eq _ (by omega)]
  rfl

theorem spritePixel_eq {n : Nat} (hn : n < 64) (r c : Nat) : spritePixel s n r c = spritePixel t n r c := by
  have htile : spriteTile s n = spriteTile t n := h.oam_eq _ (by omega)
  simp only [spritePixel, htile, h.spriteAttr_eq hn, h.sprPt_eq, h.tilePixel_eq]

theorem spriteColumn_eq {n : Nat} (hn : n < 64) (c : Nat) : spriteColumn s n c = spriteColumn t n c := by
  rw [spriteColumn, spriteX, h.oam_eq _ (by omega)]
  rfl

theorem spriteRow_eq {n : Nat} (hn : n < 64) (r : Nat) : spriteRow s n r = spriteRow t n r := by
  rw [spriteRow, spriteY, h.oam_eq _ (by omega), h.spriteYOffset_eq]
  rfl

theorem spriteStepFault_eq {k : SpriteStep} (hn : k.n < 64) : spriteStepFault s k = spriteStepFault t k := by
  have hoff : spriteOffScreen s k = spriteOffScreen t k := by
    rw [spriteOffScreen, h.spriteColumn_eq hn, h.spriteRow_eq hn, spriteOffScreen]
  rw [spriteStepFault, h.spriteHidden_eq hn, h.spritePixel_eq hn, hoff, h.spriteEdge_eq, h.spriteAttr_eq hn,
    h.paletteFault_eq (spriteGroup_range _).2, spriteStepFault]

theorem spriteFault_eq : spriteFault s = spriteFault t := by
  cases hsize : sprSize t with
  | true => rw [spriteFault, spriteFault, if_pos hsize, if_pos (h.sprSize_eq.trans hsize)]
  | false =>
    rw [spriteFault_eq_search t hsize, spriteFault_eq_search s (h.sprSize_eq.trans hsize)]
    refine findSome?_congr_mem fun k hk => ?_
    obtain ⟨hn, -, -⟩ := (mem_spriteOrder k).mp hk
    exact h.spriteStepFault_eq hn

theorem spriteColor_eq {n : Nat} (hn : n < 64) (x y : Nat) : spriteColor s n x y = spriteColor t n x y := by
  simp only [spriteColor, h.spriteHidden_eq hn, h.spritePixel_eq hn, h.spriteColumn_eq hn, h.spriteRow_eq hn,
    h.spriteAttr_eq hn, h.paletteColor_eq (spriteGroup_range _).2]

theorem overlay_eq (x y : Nat) (below : Color) : overlay s x y below = overlay t x y below :=
  List.foldl_ext _ _ _ fun c n hn => by rw [h.spriteColor_eq (List.mem_range.mp hn)]

/-! RENDER. -/

theorem renderFault_eq : renderFault s = renderFault t := by
  rw [renderFault, h.backgroundFault_eq, h.spriteFault_eq, renderFault]

theorem renderFrame_eq : renderFrame s = renderFrame t :=
  Frame.ext_pixel fun x y => by
    rw [renderFrame_pixel, renderFrame_pixel, h.backgroundColor_eq x.isLt y.isLt, h.overlay_eq]

end SameRenderInputs

/-- Settles O42: what the two states agree on decides both the fault and the frame, and the colour table the RGB
view. -/
theorem frameDependsOnlyOnWhatIsListed : Obligations.FrameDependsOnlyOnWhatIsListed := by
  intro s t hnt hspr hbg hsize hnametable hpalette hoam hrom hstride hoffset hedge hpolicy htable s' hs hframe
  have h : SameRenderInputs s t :=
    ⟨hnt, hspr, hbg, hsize, hnametable, hpalette, hoam, hrom, hstride, hoffset, hedge, hpolicy⟩
  obtain ⟨hfault, rfl⟩ := exec_render_completed hs hframe
  refine ⟨_, exec_render_frame (h.renderFault_eq ▸ hfault), rfl, h.renderFrame_eq.symm, fun x y => ?_⟩
  simp only [fb, h.renderFrame_eq, htable]

end Sys2Proof.Machine

/-! ## Proofs: sprites -/

namespace Sys2Proof.Machine

/-! ### Where a sprite paints -/

/-- A hidden sprite paints nowhere (R217). -/
theorem spriteColor_of_hidden {s : State} {n : Nat} (h : oamByte s (4 * n) = 255) (x y : Nat) :
    spriteColor s n x y = none :=
  if_pos ((spriteHidden_iff s n).mpr h)

/-- A pixel of a shown sprite has a colour, its own, unless its index is 0 (R219, R220). -/
theorem spriteCellColor_of_shown {s : State} {n : Nat} (h : oamByte s (4 * n) ≠ 255) (r c : Nat) :
    spriteCellColor s n r c =
      if spritePixel s n r c = 0 then none
      else some (paletteColor s (spriteGroup (spriteAttr s n)) (spritePixel s n r c)) := by
  simp only [spriteCellColor, spriteHidden_iff, h, false_or]

/-- Settles O39: a sprite paints where one of its pixels lands, in that pixel's colour, and nowhere if it is hidden. -/
theorem spritePixelsLandWhereTheRulesSay : Obligations.SpritePixelsLandWhereTheRulesSay := by
  rintro s n y a x rfl rfl rfl
  refine ⟨spriteColor_of_hidden, fun hshown r hr c hc i hi => ?_, fun px py hpaints => ?_⟩
  · obtain rfl : i = spritePixel s n r c := hi
    calc spriteColor s n _ _
        = spriteCellColor s n r c := spriteColor_of_lands hr hc rfl rfl
      _ = if spritePixel s n r c = 0 then none
          else some (paletteColor s (spriteGroup (spriteAttr s n)) (spritePixel s n r c)) :=
          spriteCellColor_of_shown hshown r c
      _ = _ := by rw [spriteGroup_eq, spriteAttr]
  · obtain ⟨r, hr, c, hc, rfl, rfl⟩ := lands_of_spriteColor hpaints
    simp only [spriteColumn, spriteX, spriteRow, spriteY]
    omega

/-! ### The sprite on top -/

/-- Overwriting along 0 to `k - 1`: the value at `n` is left when nothing comes after it. -/
theorem foldl_range_getD_of_last {β : Type} {f : Nat → Option β} {n k : Nat} {c : β} (hn : n < k) (hc : f n = some c)
    (hlast : ∀ m < k, n < m → f m = none) (b : β) :
    (List.range k).foldl (fun below m => (f m).getD below) b = c := by
  induction k with
  | zero => exact absurd hn (Nat.not_lt_zero n)
  | succ k ih =>
    rw [List.range_succ, List.foldl_concat]
    rcases Nat.lt_succ_iff_lt_or_eq.mp hn with hlt | rfl
    · rw [hlast k k.lt_succ_self hlt, Option.getD_none]
      exact ih hlt fun m hm => hlast m (Nat.lt_succ_of_lt hm)
    · rw [hc, Option.getD_some]

/-- The highest opaque sprite's colour is the overlay's (R222, R223). -/
theorem overlay_of_highest {s : State} {n x y : Nat} {c : Color} (hn : n < 64) (hc : spriteColor s n x y = some c)
    (hhighest : ∀ m < 64, n < m → spriteColor s m x y = none) (below : Color) : overlay s x y below = c :=
  foldl_range_getD_of_last hn hc hhighest below

/-- Settles O43: a completed RENDER's pixel is the overlay of the sprites on the background's colour. -/
theorem highestOpaqueSpriteWins : Obligations.HighestOpaqueSpriteWins := by
  intro s t hrender hframe x y
  obtain ⟨-, rfl⟩ := exec_render_completed hrender hframe
  rw [renderFrame_pixel]
  exact ⟨overlay_of_transparent, fun n hn c hc hhighest => overlay_of_highest hn hc hhighest _⟩

end Sys2Proof.Machine

/-! ## Proofs: exceptions -/

namespace Sys2Proof.Machine

/-! ### The sticky gate -/

/-- The step of a block that has a fault recorded (R246); a refusal mark beside it is not looked at (log entry 4). -/
theorem step_of_fault {s : State} {f : FaultRecord} (h : s.fault = some f) : step s = .fault (.stopped f) := by
  simp [step, fetch, h]

/-- A running block answers whatever the head of its stream is, an empty stream included (R11, R246; log entry 2). -/
theorem step_of_running {s : State} (hrun : s.running) : ∃ t, step s = .next t := by
  rcases harr : s.arrivals with _ | ⟨⟨q⟩ | ⟨a, v⟩, rest⟩
  · exact ⟨s, step_of_running_idle hrun harr⟩
  · rw [step_of_running_request hrun harr]
    exact exec_answers _ _
  · exact ⟨_, step_of_running_store hrun harr⟩

/-- Settles O9: a running block answers, a step that answers was let through the gate, and either mark has its stop. -/
theorem onlyARunningBlockSteps : Obligations.OnlyARunningBlockSteps := by
  refine fun s => ⟨⟨fun ⟨t, hstep⟩ => ?_, step_of_running⟩, fun f => step_of_fault, step_of_refused⟩
  obtain ⟨hfault, hrefused, -⟩ := step_next hstep
  exact ⟨hfault, hrefused⟩

/-! ### Construction from an image of another size -/

theorem construct_fault_of_wrongSize {c : Construction} (h : c.image.length ≠ 16384) :
    (construct c).fault = some (.badPatternRomSize c.image.length) := if_neg h

/-- Settles O49: the construction records the fault, and the gate stops on it. -/
theorem wrongImageSizeStopsTheBlock : Obligations.WrongImageSizeStopsTheBlock := fun _ hsize =>
  ⟨construct_fault_of_wrongSize hsize, step_of_fault (construct_fault_of_wrongSize hsize)⟩

/-! ### Faults are precise -/

section
variable {s u t : State}

theorem fault_of_finish (h : finish u = .next t) (hu : u.fault = s.fault) : t.fault = s.fault := by
  rw [finish_next.mp h, ← hu]

theorem fault_of_answer {b : Byte} (h : answer b u = .next t) (hu : u.fault = s.fault) : t.fault = s.fault := by
  rw [answer_next.mp h, ← hu]

theorem fault_of_refuse (h : refuse s = .next t) : t.fault = s.fault := by
  rw [refuse_next.mp h]

end

/-- A request other than RENDER ends in one of two ways: it raises a fault in the state it found, before it has changed
anything (R245), or it leaves the fault record. -/
theorem exec_raises_or_keeps_fault {i : Instr} {s t : State} (hi : i ≠ .render) (h : exec i s = .next t) :
    (∃ f, raise f s = .next t) ∨ t.fault = s.fault := by
  cases i with
  | render => exact absurd rfl hi
  | rdUnmapped | wrUnmapped => exact .inl ⟨_, h⟩
  | rdPpudata =>
    cases hovf : s.vOvf with
    | true => exact .inl ⟨_, (exec_rdPpudata_overflowed hovf).symm.trans h⟩
    | false => exact .inr (fault_of_answer ((exec_rdPpudata_inRange hovf).symm.trans h) rfl)
  | wrPpudata d =>
    cases hovf : s.vOvf with
    | true => exact .inl ⟨_, (exec_wrPpudata_overflowed d hovf).symm.trans h⟩
    | false => exact .inr (fault_of_finish ((exec_wrPpudata_inRange d hovf).symm.trans h) rfl)
  | wrOamdma d =>
    by_cases hin : dmaInRange s d = true
    · exact .inr (fault_of_finish ((exec_wrOamdma_inRange hin).symm.trans h) rfl)
    · exact .inl ⟨_, (exec_wrOamdma_outOfRange hin).symm.trans h⟩
  | tick =>
    cases hwired : s.wired with
    | true => exact .inr (fault_of_finish ((exec_tick_wired hwired).symm.trans h) (tickCount_fault s))
    | false => exact .inl ⟨_, (exec_tick_unwired hwired).symm.trans h⟩
  | rdPpustatus => exact .inr (fault_of_answer h rfl)
  | rdJoy => exact .inr (fault_of_answer h (joyAdvance_fault s))
  | wrPpuscroll d => exact .inr (fault_of_finish h (by split <;> rfl))
  | wrPpuaddr d => exact .inr (fault_of_finish h (by split <;> simp))
  | wrPpuctrl | wrPpumask | wrOamaddr | wrOamdata | wrJoystrobe | wrAudioA | wrAudioB | setInput | wireCpu =>
    exact .inr (fault_of_finish h rfl)
  | reserved6 | reserved7 => exact .inr (fault_of_refuse h)

/-- Settles O52: from a state without a fault, a request that records one has raised it in the state it found. -/
theorem faultsLeaveEverythingElse : Obligations.FaultsLeaveEverythingElse := by
  intro i s t f hi h hnone hsome
  rcases exec_raises_or_keeps_fault hi h with ⟨g, hraise⟩ | hkept
  · obtain rfl := raise_next.mp hraise
    obtain rfl : g = f := Option.some.inj hsome
    rfl
  · rw [hkept, hnone] at hsome
    cases hsome

/-! ### The information of RENDER's faults -/

/-- A lookup reads one of the thirty-two palette bytes from 0x3F00 (R186). -/
theorem paletteAddr_range {g : Nat} (hg : g < 8) (i : PixelIndex) :
    0x3F00 ≤ paletteAddr g i ∧ paletteAddr g i ≤ 0x3F1F := by
  have hindex := i.isLt
  unfold paletteAddr
  omega

/-- A fault of the background pass is that of a lookup in one of the groups 0 to 3 (R183, R186). -/
theorem backgroundFault_eq_some {s : State} {f : FaultRecord} (h : backgroundFault s = some f) :
    ∃ g < 4, ∃ i, paletteFault s g i = some f := by
  rw [backgroundFault_eq_search] at h
  obtain ⟨k, -, hk⟩ := List.exists_of_findSome?_eq_some h
  exact ⟨_, attrGroup_lt s k.tx k.ty, _, hk⟩

/-- Pixel `k` is an occasion for SPRITE_OFF_SCREEN: an opaque pixel of a sprite that is not hidden, past the edge, under
SPRITE_EDGE = fault (R217, R220, R221). -/
structure SpriteStep.RunsOffScreen (s : State) (k : SpriteStep) : Prop where
  edge    : s.params.spriteEdge = .fault
  shown   : oamByte s (4 * k.n) ≠ 255
  painted : spritePixel s k.n k.r k.c ≠ 0
  beyond  : 255 < spriteColumn s k.n k.c ∨ 239 < spriteRow s k.n k.r

/-- A pixel of a sprite that raises a fault runs off the screen or is looked up in one of the groups 4 to 7 (R219). -/
theorem spriteStepFault_eq_some {s : State} {k : SpriteStep} {f : FaultRecord} (h : spriteStepFault s k = some f) :
    (f = .spriteOffScreen k.n ∧ k.RunsOffScreen s) ∨ ∃ g < 8, ∃ i, paletteFault s g i = some f := by
  by_cases hshown : oamByte s (4 * k.n) = 255
  · rw [spriteStepFault_eq_none (.inl hshown)] at h
    cases h
  by_cases hopaque : spritePixel s k.n k.r k.c = 0
  · rw [spriteStepFault_eq_none (.inr (.inl hopaque))] at h
    cases h
  by_cases hoff : 255 < spriteColumn s k.n k.c ∨ 239 < spriteRow s k.n k.r
  · cases hedge : s.params.spriteEdge with
    | clip =>
      rw [spriteStepFault_eq_none (.inr (.inr (by rwa [if_pos hoff])))] at h
      cases h
    | fault =>
      rw [spriteStepFault_off hshown hopaque hoff hedge] at h
      exact .inl ⟨(Option.some.inj h).symm, hedge, hshown, hopaque, hoff⟩
  · rw [spriteStepFault_on hshown hopaque hoff] at h
    exact .inr ⟨_, (spriteGroup_range _).2, _, h⟩

/-- The faults of the sprite pass: 8 by 16 sprites, or the fault of one of its pixels (R215). -/
theorem spriteFault_eq_some {s : State} {f : FaultRecord} (h : spriteFault s = some f) :
    (f = .sprite8x16Unimplemented ∧ sprSize s = true) ∨ ∃ k ∈ spriteOrder, spriteStepFault s k = some f := by
  cases hsize : sprSize s with
  | true => exact .inl ⟨by simpa [spriteFault, hsize] using h.symm, rfl⟩
  | false =>
    rw [spriteFault_eq_search s hsize] at h
    exact .inr (List.exists_of_findSome?_eq_some h)

/-- The three occasions for a fault of RENDER (R186, R215, R221). -/
theorem renderFault_eq_some {s : State} {f : FaultRecord} (h : renderFault s = some f) :
    (f = .sprite8x16Unimplemented ∧ sprSize s = true) ∨ (∃ g < 8, ∃ i, paletteFault s g i = some f) ∨
      ∃ k ∈ spriteOrder, f = .spriteOffScreen k.n ∧ k.RunsOffScreen s := by
  rcases Option.or_eq_some_iff.mp h with hbackground | ⟨-, hsprite⟩
  · obtain ⟨g, hg, i, hf⟩ := backgroundFault_eq_some hbackground
    exact .inr (.inl ⟨g, by omega, i, hf⟩)
  · rcases spriteFault_eq_some hsprite with htall | ⟨k, hk, hstep⟩
    · exact .inl htall
    · rcases spriteStepFault_eq_some hstep with hoff | hlookup
      · exact .inr (.inr ⟨k, hk, hoff⟩)
      · exact .inr (.inl hlookup)

/-- A RENDER from a state without a fault records the one it raises. -/
theorem renderFault_of_exec {s t : State} {f : FaultRecord} (h : exec .render s = .next t) (hnone : s.fault = none)
    (hsome : t.fault = some f) : renderFault s = some f := by
  cases hrender : renderFault s with
  | some g =>
    rw [exec_render_fault hrender, raise_next] at h
    rw [← hsome, h]
  | none =>
    rw [exec_render_frame hrender, answerFrame_next] at h
    rw [← hsome, h]
    exact hnone.symm

/-! ### What each fault records -/

/-- A source byte outside the segment puts the page out of range (R109). -/
theorem not_dmaInRange_of_outside {s : State} {d : Byte} {k : Nat} (hk : k < 256)
    (hout : inWram s (d.toNat * 256 + k) = false) : ¬ dmaInRange s d = true := fun hin => by
  have hinside := (inWram_iff s _).mpr ((dmaInRange_iff s d).mp hin k hk)
  rw [hout] at hinside
  cases hinside

/-- Settles O53: every request but RENDER raises its record by name, and RENDER has three occasions for a fault. -/
theorem faultRecordsHoldTheirInfo : Obligations.FaultRecordsHoldTheirInfo := by
  refine ⟨fun d s hovf => ?_, fun d s ⟨k, hk, hout⟩ => ?_, fun a d s => ⟨_, _, rfl, rfl, rfl, rfl⟩,
    fun s hwired => ?_, fun c => construct_fault_of_wrongSize, fun s t f h hnone hsome => ?_, fun q a d e n => rfl⟩
  · exact ⟨_, _, exec_wrPpudata_overflowed d hovf, exec_rdPpudata_overflowed hovf, rfl, rfl⟩
  · exact ⟨_, exec_wrOamdma_outOfRange (not_dmaInRange_of_outside hk hout), rfl⟩
  · exact ⟨_, exec_tick_unwired hwired, rfl⟩
  · rcases renderFault_eq_some (renderFault_of_exec h hnone hsome) with
      htall | ⟨g, hg, i, hlookup⟩ | ⟨k, hk, rfl, hoff⟩
    · exact .inl htall
    · obtain ⟨hpolicy, hbyte, rfl⟩ := paletteFault_eq_some_iff.mp hlookup
      obtain ⟨hlow, hhigh⟩ := paletteAddr_range hg i
      exact .inr (.inl ⟨_, _, rfl, hpolicy, hlow, hhigh, rfl, hbyte⟩)
    · obtain ⟨hn, hr, hc⟩ := (mem_spriteOrder k).mp hk
      exact .inr (.inr ⟨k.n, hn, k.r, hr, k.c, hc, rfl, hoff.edge, hoff.shown, hoff.painted, hoff.beyond⟩)

end Sys2Proof.Machine

/-! ## Proofs: reset and hazards -/

namespace Sys2Proof.Machine

/-! ### The increment step -/

theorem cursorStep_le (s : State) : cursorStep s ≤ 32 := by
  unfold cursorStep
  split <;> omega

/-- A control write leaves the cursor, and the step after it is the one its byte names (R100, R25, R107). -/
theorem exec_wrPpuctrl_setsStep (c : Byte) (s : State) : ∃ t, exec (.wrPpuctrl c) s = .next t ∧
    t.vAddr = s.vAddr ∧ t.vOvf = s.vOvf ∧ cursorStep t = if c.getLsbD 2 then 32 else 1 :=
  ⟨_, (controlWriteStoresTheByte c s).2, rfl, rfl, rfl⟩

/-- An advance that stays in the 14-bit space is the plain sum (R107). -/
theorem toNat_advance_vAddr_inRange {s : State} (h : s.vAddr.toNat + cursorStep s ≤ 0x3FFF) :
    (advance s).vAddr.toNat = s.vAddr.toNat + cursorStep s := by
  rw [advance_vAddr, BitVec.toNat_ofNat, Nat.mod_eq_of_lt (by omega)]

section
variable {s : State} (hovf : s.vOvf = false) (hrange : s.vAddr.toNat + cursorStep s ≤ 0x3FFF)
include hovf hrange

/-- A data write with room for its step completes and moves the cursor by the step (R105, R107). -/
theorem exec_wrPpudata_moves (d : Byte) : ∃ u, exec (.wrPpudata d) s = .next u ∧
    u.vAddr.toNat = s.vAddr.toNat + cursorStep s ∧ u.vOvf = false :=
  ⟨_, exec_wrPpudata_inRange d hovf, toNat_advance_vAddr_inRange hrange, (advance_vOvf_inRange hrange).trans hovf⟩

/-- A data read with room for its step completes and moves the cursor by the step (R140, R107). -/
theorem exec_rdPpudata_moves : ∃ v, exec .rdPpudata s = .next v ∧
    v.vAddr.toNat = s.vAddr.toNat + cursorStep s ∧ v.vOvf = false :=
  ⟨_, exec_rdPpudata_inRange hovf, toNat_advance_vAddr_inRange hrange, (advance_vOvf_inRange hrange).trans hovf⟩

end

/-- Settles O19: the control write leaves the cursor and sets the step, so the access after it moves the old cursor by
the new step, which is at most the 32 there is room for. -/
theorem controlWriteChangesTheNextStep : Obligations.ControlWriteChangesTheNextStep := by
  intro c d s hovf hrange
  obtain ⟨t, hctrl, haddr, htovf, hstep⟩ := exec_wrPpuctrl_setsStep c s
  rw [← htovf] at hovf
  have hroom : t.vAddr.toNat + cursorStep t ≤ 0x3FFF := by
    have hle := cursorStep_le t
    rw [haddr]
    omega
  obtain ⟨u, hwrite, huaddr, huovf⟩ := exec_wrPpudata_moves hovf hroom d
  obtain ⟨v, hread, hvaddr, hvovf⟩ := exec_rdPpudata_moves hovf hroom
  rw [haddr, hstep] at huaddr hvaddr
  exact ⟨t, u, v, hctrl, hwrite, hread, huaddr, huovf, hvaddr, hvovf⟩

end Sys2Proof.Machine
